-- ==== Sys2Proof/Word.lean ====
section
/-! DEFINITION. The word types of the engine's registers and ports. -/

namespace Sys2Proof

/-- A byte of the tablet line (R25). -/
abbrev Byte := BitVec 8

/-- A 16-bit word: one location of the application window (R179). -/
abbrev Half := BitVec 16

/-- A 32-bit word: one location of the display window (R179), one word of an update cell (R79)
or of a bank entry (R193). -/
abbrev Word := BitVec 32

/-- A slot number of the snap target table, 0..1023 (R54). -/
abbrev SlotNo := Fin 1024

/-- A bin number of the bin window, 0..255 (R58). -/
abbrev BinNo := Fin 256

end Sys2Proof
end

