-- ==== Sys2Proof/Config.lean ====
section
/-! DEFINITION. The constants the spec fixes. The spec leaves no value open that the model needs, so there
is no free value here. -/

namespace Sys2Proof.Config

/-- The unit of the times that commands carry: microseconds in a millisecond (log 1, DESIGN CHOICE, safe). -/
def microsPerMs : Nat := 1000

/-- The gap timer expires 4 ms after the last byte taken (R30). -/
def gapMs : Nat := 4

/-- The unit of the presence timeout setting, in ms (R36). -/
def presenceUnitMs : Nat := 50

/-- The lower world bound (R1, R6). -/
def worldMin : Int := -8388608

/-- The upper world bound (R1, R6). -/
def worldMax : Int := 8388607

/-- The greatest scale of a view (R8). -/
def scaleMax : Int := 16777215

/-- The greatest display width and height (R1). -/
def displayMax : Int := 4096

/-- The references of the reference pool (R59). -/
def poolSize : Nat := 2048

/-- The capacity of the wide list (R59). -/
def wideCap : Nat := 64

/-- The most bins a target is entered in (R60). -/
def maxBinsPerTarget : Nat := 8

/-- The capacity of the button event queue (R43). -/
def buttonQueueCap : Nat := 4

/-- The capacity of the commit log (R142). -/
def commitLogCap : Nat := 16

/-- The capacity of the drag figure (R125). -/
def dragCap : Nat := 64

/-- The counter value at which the link is OFFLINE, its ceiling (R33). -/
def errorMax : Nat := 255

/-- The counter value from which the link is DEGRADED (R33). -/
def errorDegraded : Nat := 128

/-- The counter value from which LINK_WARN is raised (R33). -/
def errorWarn : Nat := 96

/-- The rise of the counter at a frame error (R32). -/
def errorRise : Nat := 8

/-- The good frames of a recovery run (R34). -/
def recoveryRun : Nat := 64

/-- What the hold band gains in DEGRADED (R40). -/
def degradedBand : Int := 4

/-- The cosine table T[k], k = 0..16 (R21). -/
def cosines : List Int :=
  [65536, 65220, 64277, 62714, 60547, 57798, 54491, 50660, 46341, 41576, 36410, 30893, 25080, 19024, 12785,
    6424, 0]

end Sys2Proof.Config
end

