-- ==== Sys2Proof/Syntax.lean ====
section
/-! DEFINITION. The commands of the engine: one constructor for each row of spec/opcode_table.json, with the
operands the spec gives the row. -/

namespace Sys2Proof

/-- The two ports (R179). -/
inductive PortId where
  /-- The application port, 16 bits wide. -/
  | app
  /-- The display port, 32 bits wide. -/
  | disp
  deriving DecidableEq, Repr

/-- The two addresses of a port (R179). -/
inductive PortAddr where
  | index
  | data
  deriving DecidableEq, Repr

/-- The two pick slots (chapter 9): slot 0 in the application window, slot 1 in the display window. -/
inductive PickId where
  | pick0
  | pick1
  deriving DecidableEq, Repr

/-- The writable locations of a pick slot (R171, R195, R196): its inputs and GO. A point coordinate is two
16-bit halves in the application window and one word in the display window. -/
inductive PickInput where
  | xLow
  | xHigh
  | yLow
  | yHigh
  | x
  | y
  | aperture
  | choice
  | mask
  | matchTag
  | enables
  | go
  deriving DecidableEq, Repr

/-- The five fields of the staged view (R165). -/
inductive ViewField where
  | ox
  | oy
  | scale
  | width
  | height
  deriving DecidableEq, Repr

/-- The two ways to issue COMMIT_POP (R182): its command code, or its own action location. -/
inductive PopPath where
  | command
  | location
  deriving DecidableEq, Repr

/-- The eight 32-bit words of an update cell as fetched (R79, R192). -/
structure Cell where
  link : Word
  control : Word
  classWord : Word
  p0x : Word
  p0y : Word
  third : Word
  p1y : Word
  handleWord : Word
  deriving DecidableEq, Repr

/-- What the memory bus answers to the fetch of a cell (R84). -/
inductive FetchReply where
  /-- One of the reads was answered with a bus error. -/
  | busError
  /-- All eight words were read. -/
  | cell (c : Cell)
  deriving DecidableEq, Repr

/-- The commands: one constructor for each row of spec/opcode_table.json. Times are in microseconds (log 1). -/
inductive Instr where
  /-- POWER_ON (R190): every piece of state takes its reset value. -/
  | powerOn
  /-- BYTE_ARRIVAL (R28): a byte arrives at `time`; `sound` says whether its stop bit was found (R25). -/
  | byteArrival (time : Nat) (sound : Bool) (byte : Byte)
  /-- GAP_EXPIRY (R30): the gap timer runs out at `time`. -/
  | gapExpiry (time : Nat)
  /-- PRESENCE_EXPIRY (R36): the presence timer of `device` runs out at `time`. -/
  | presenceExpiry (time : Nat) (device : Fin 8)
  /-- ENGINE_RESET (R183): command 1. -/
  | engineReset
  /-- LINK_RESTART (R35): command 2. -/
  | linkRestart
  /-- APPLY (R185): command 3. -/
  | apply
  /-- UPDATE_TEARDOWN (R93): command 4. -/
  | updateTeardown
  /-- UPDATE_ACK (R91): command 5. -/
  | updateAck
  /-- COMMIT_POP (R144): command 6, or a write to the COMMIT_POP location. -/
  | commitPop (path : PopPath)
  /-- SUBMIT_HI (R81): a write of the high half of a head address. -/
  | submitHi (value : Half)
  /-- FETCH_COMPLETION (R84): the fetch of the current cell completes with the bus's answer. -/
  | fetchCompletion (reply : FetchReply)
  /-- TABLE_GRANT (R76): the operation of the grant's holder begins. -/
  | tableGrant
  /-- CELL_APPLICATION (R85): the table op under the UPDATE grant completes. -/
  | cellApplication
  /-- WRITE_BACK_COMPLETION (R88): the write-back completes; the flags are the bus's answers to the write of the
  handle word, where it is written, and to the write of the control word, where it is reached. -/
  | writeBackCompletion (handleError controlError : Bool)
  /-- MARKING_COMPLETION (R94): the marking write completes with the bus's answer. -/
  | markingCompletion (busError : Bool)
  /-- COMMIT_START (R126): the tool unit takes the next press. -/
  | commitStart
  /-- RESOLUTION_END (R120): the resolution under grant ends. -/
  | resolutionEnd
  /-- BUILD_START (R148). -/
  | buildStart
  /-- BUILD_COMPLETION (R163). -/
  | buildCompletion
  /-- FRAME_START (R166): a write of any value to FRAME_START. -/
  | frameStart (value : Word)
  /-- STREAM (R167): a read of STREAM. -/
  | stream
  /-- STREAM_REWIND (R167): a write of any value to STREAM_REWIND. -/
  | streamRewind (value : Word)
  /-- STAGED_VIEW_WRITE (R165). -/
  | stagedViewWrite (field : ViewField) (value : Word)
  /-- PICK_GO (R173): a write of 1 to GO of a pick slot. -/
  | pickGo (slot : PickId)
  /-- PICK_BLOCKED_WRITE (R174): a write to an input or GO of a busy pick slot. -/
  | pickBlockedWrite (slot : PickId) (input : PickInput) (value : Word)
  /-- PICK_COMPLETION (R176): the pick search under grant completes. -/
  | pickCompletion
  /-- NOTICE_RAW (R189): a write to the port's NOTICE_RAW. -/
  | noticeRaw (port : PortId) (value : Word)
  /-- ENABLE_SET (R189): a write to the port's ENABLE_SET. -/
  | enableSet (port : PortId) (value : Word)
  /-- ENABLE_CLEAR (R189): a write to the port's ENABLE_CLEAR. -/
  | enableClear (port : PortId) (value : Word)
  /-- DATA_READ (R180): a read at one of the port's two addresses; a read of INDEX is R179's. -/
  | dataRead (port : PortId) (address : PortAddr)
  /-- REGISTER_WRITE (R181): a write at one of the port's two addresses. -/
  | registerWrite (port : PortId) (address : PortAddr) (value : Word)
  deriving DecidableEq, Repr

end Sys2Proof
end

