-- ==== Sys2Proof/WellFormed.lean ====
section
/-! DEFINITION. The check of a command's operands: a value written on the application port fits its 16 data bits
(R179), and a pick input named by a command exists in the window of its slot (R195, R196). -/

namespace Sys2Proof

/-- A written value fits the data width of its port (R179). -/
def PortId.fits (port : PortId) (value : Word) : Bool :=
  match port with
  | .app => value.toNat < 65536
  | .disp => true

/-- The port through which a pick slot is reached (chapter 9). -/
def PickId.port : PickId → PortId
  | .pick0 => .app
  | .pick1 => .disp

/-- The window of the slot has a location for this input: coordinate halves in the application window
(R195), whole coordinates in the display window (R196). -/
def PickInput.inWindow (slot : PickId) (input : PickInput) : Bool :=
  match slot, input with
  | .pick0, .x => false
  | .pick0, .y => false
  | .pick1, .xLow => false
  | .pick1, .xHigh => false
  | .pick1, .yLow => false
  | .pick1, .yHigh => false
  | _, _ => true

/-- The command's operands are ones a sender can produce. -/
def Instr.wellFormed : Instr → Bool
  | .pickBlockedWrite slot input value => input.inWindow slot && slot.port.fits value
  | .noticeRaw port value => port.fits value
  | .enableSet port value => port.fits value
  | .enableClear port value => port.fits value
  | .registerWrite port _ value => port.fits value
  | .powerOn => true
  | .byteArrival _ _ _ => true
  | .gapExpiry _ => true
  | .presenceExpiry _ _ => true
  | .engineReset => true
  | .linkRestart => true
  | .apply => true
  | .updateTeardown => true
  | .updateAck => true
  | .commitPop _ => true
  | .submitHi _ => true
  | .fetchCompletion _ => true
  | .tableGrant => true
  | .cellApplication => true
  | .writeBackCompletion _ _ => true
  | .markingCompletion _ => true
  | .commitStart => true
  | .resolutionEnd => true
  | .buildStart => true
  | .buildCompletion => true
  | .frameStart _ => true
  | .stream => true
  | .streamRewind _ => true
  | .stagedViewWrite _ _ => true
  | .pickGo _ => true
  | .pickCompletion => true
  | .dataRead _ _ => true

end Sys2Proof
end

