-- ==== Sys2Proof/Machine/State.lean ====
section
/-! DEFINITION. The state of the engine, block by block, as plain data; the reasons a step can stop; the state after
power-on. Rule numbers name the rule of spec/ that gives each piece of state and its reset value. -/

namespace Sys2Proof.Machine

/-- The engine stops for nothing: no rule of the spec gives it an exception or a fault, so this type has no
constructor. -/
inductive Fault where
  deriving DecidableEq, Repr

/-- The reasons a command has no meaning. -/
inductive Refusal where
  /-- The command has no meaning in this model yet; raised by an arm of `exec` alone. Safe: a refused command proves
  nothing about the hardware. -/
  | notModelled (mnemonic : String)
  deriving DecidableEq, Repr

/-! ## Points, handles, features -/

/-- A world point, or a pair of world offsets (R1). -/
structure Point where
  x : Int
  y : Int
  deriving DecidableEq, Repr, Inhabited

/-- A tablet position, 0..16383 on each axis (R1). -/
structure TabletPoint where
  x : BitVec 14
  y : BitVec 14
  deriving DecidableEq, Repr, Inhabited

/-- A handle: slot and reuse tag (R56). -/
structure Handle where
  slot : SlotNo
  tag : BitVec 5
  deriving DecidableEq, Repr

/-- The features a resolution or a pick returns (R105, R119). -/
inductive Feature where
  | none
  | node
  | endPoint
  | mid
  | center
  | quad
  | near
  | grid
  deriving DecidableEq, Repr

/-- A feature of the table, by its identity (R109). -/
structure FeatureRef where
  handle : Handle
  feature : Feature
  index : BitVec 2
  deriving DecidableEq, Repr

/-! ## The link receiver (chapter 2) -/

/-- The frame assembler (R27, R28). In BODY it holds the bytes taken so far and the time at which the gap timer
expires (R30); in HUNT the timer is stopped. -/
inductive Assembler where
  | hunt
  | body (held : List Byte) (gapAt : Nat)
  deriving DecidableEq, Repr

/-- The link states (R33). -/
inductive LinkState where
  | tracking
  | degraded
  | offline
  deriving DecidableEq, Repr

/-- A device's presence (R36): PRESENT with the time at which its timer expires, or ABSENT with the timer stopped. -/
inductive Presence where
  | absent
  | present (expiresAt : Nat)
  deriving DecidableEq, Repr

/-- The cursor condition NONE, OUT or IN (R39). -/
inductive CursorCondition where
  | none
  | out
  | inside
  deriving DecidableEq, Repr

/-- A button's accepted state and the report arrival time of its last accepted transition (R41). -/
structure Button where
  pressed : Bool
  last : Option Nat
  deriving DecidableEq, Repr

/-- An entry of the button event queue (R43). `buttons` holds the buttons of the pressed-button set that no commit
has handled yet (R126; log 14). -/
structure QueueEntry where
  buttons : BitVec 4
  f : TabletPoint
  r : TabletPoint
  report : Half
  deriving DecidableEq, Repr

/-- The link receiver's state (R45). The link state is derived from `errors` (R33). -/
structure Link where
  assembler : Assembler
  errors : BitVec 8
  run : BitVec 7
  presence : Vector Presence 8
  condition : CursorCondition
  f : TabletPoint
  fValid : Bool
  rawLatch : TabletPoint
  report : Half
  buttons : Vector Button 4
  queue : List QueueEntry
  deriving DecidableEq, Repr

/-! ## The settings block (R184 to R186) -/

/-- A class filter (R103). -/
structure ClassFilter where
  enable : Half
  mask : Half
  matchTag : Half
  deriving DecidableEq, Repr

/-- The settings of a menu window (R46). -/
structure MenuWindow where
  mode : Half
  x0 : Half
  y0 : Half
  width : Half
  height : Half
  columns : Half
  rows : Half
  deriving DecidableEq, Repr

/-- One copy, staged or active, of every setting of R186, each as the word its location holds. -/
structure Settings where
  originX : Half
  originY : Half
  gainX : Half
  gainY : Half
  holdBand : Half
  debounce : Half
  activeDevice : Half
  presenceTimeout : Half
  linkRate : Half
  tool : Half
  constraint : Half
  closeHint : Half
  enables : Half
  aperture : Half
  release : Half
  showAperture : Half
  crosshair : Half
  arm : Half
  marker : Half
  chords : Half
  learnCap : Half
  learnTag : Half
  pitchX : Half
  pitchY : Half
  gridX : Word
  gridY : Word
  filters : Vector ClassFilter 4
  windowA : MenuWindow
  windowB : MenuWindow
  deriving DecidableEq, Repr

/-- The engine state (R183). -/
inductive EngineState where
  | run
  | resetting
  deriving DecidableEq, Repr

/-! ## The snap target table and its arbiter (chapter 4) -/

/-- Kind, points and radius of a target (R55). -/
inductive Shape where
  | point (p0 : Point)
  | segment (p0 p1 : Point)
  | circle (center : Point) (radius : Nat)
  deriving DecidableEq, Repr

/-- The origin of a target (R55). -/
inductive Origin where
  | application
  | learned
  deriving DecidableEq, Repr

/-- The placement of a target (R55, R60): the bins it is entered in, ascending, or WIDE. -/
inductive Placement where
  | bins (numbers : List BinNo)
  | wide
  deriving DecidableEq, Repr

/-- A target record (R55). -/
structure Target where
  shape : Shape
  origin : Origin
  tag : Half
  placement : Placement
  deriving DecidableEq, Repr

/-- A slot: its reuse tag (R56), and its target when it is OCCUPIED (R54). -/
structure Slot where
  reuse : BitVec 5
  target : Option Target
  deriving DecidableEq, Repr

/-- The snap target table (R78). The bins and the wide list are sets; they are held in ascending slot order, so
that equal sets are equal data. The learned list is held oldest first (R70). -/
structure Table where
  slots : Vector Slot 1024
  originX : Int
  originY : Int
  k : Nat
  bins : Vector (List SlotNo) 256
  freeRefs : Nat
  wide : List SlotNo
  learned : List SlotNo
  generation : Half
  deriving DecidableEq, Repr

/-- The five requesters of the table (R75). -/
inductive Requester where
  | commit
  | build
  | update
  | pick0
  | pick1
  deriving DecidableEq, Repr

/-- The four requesters that take turns (R75). -/
inductive Turn where
  | build
  | update
  | pick0
  | pick1
  deriving DecidableEq, Repr

/-- Which requesters have a request waiting (R75). -/
structure Requests where
  commit : Bool
  build : Bool
  update : Bool
  pick0 : Bool
  pick1 : Bool
  deriving DecidableEq, Repr

/-- The table access arbiter (R75): holder, waiting requests and round-robin position. -/
structure Arbiter where
  holder : Option Requester
  waiting : Requests
  turn : Turn
  deriving DecidableEq, Repr

/-! ## The update engine (chapter 5) -/

/-- The stages of the list in flight (section 5.3). The fetched cell stays with the list until its link has been
taken; WRITING_BACK holds the words being written (R88). APPLYING is entered with the grant (R85) and held as two
constructors, which read alike: before and after the op has begun (R77, R96; log 4). -/
inductive Stage where
  | fetching
  | waiting (c : Cell)
  /-- APPLYING, the grant made and the op not begun. -/
  | granted (c : Cell)
  /-- APPLYING, the op begun. -/
  | applying (c : Cell)
  | writingBack (c : Cell) (handle : Option Word) (control : Word)
  | marking
  deriving DecidableEq, Repr

/-- A submitted list: head address and serial (R81). -/
structure Submitted where
  head : Word
  serial : BitVec 8
  deriving DecidableEq, Repr

/-- The list in flight (R83, R92). -/
structure InFlight where
  list : Submitted
  applied : Word
  cell : Word
  stage : Stage
  deriving DecidableEq, Repr

/-- The ending status of a list, or NONE (R92). -/
inductive ListStatus where
  | none
  | complete
  | stoppedUnowned
  | badLink
  | busError
  | tornDown
  | discarded
  deriving DecidableEq, Repr

/-- The last-list record (R90, R92). -/
structure LastList where
  list : Submitted
  status : ListStatus
  applied : Word
  lastCell : Word
  deriving DecidableEq, Repr

/-- The update engine's state (R98). -/
structure UpdateEngine where
  submitLo : Half
  lastSerial : BitVec 8
  inFlight : Option InFlight
  waiting : Option Submitted
  teardown : Bool
  done : BitVec 8
  record : LastList
  deriving DecidableEq, Repr

/-! ## The window decoder and the resolver (chapters 3 and 6) -/

/-- The modes of a decoding (R48). -/
inductive Mode where
  | normal
  | menu
  | noSnap
  | gridOnly
  deriving DecidableEq, Repr

/-- The two menu windows (R46). -/
inductive MenuId where
  | a
  | b
  deriving DecidableEq, Repr

/-- The inputs of a resolution, fixed at its start, with the capture as it was read there (R100, R120). -/
structure ResolutionInputs where
  c : Point
  mode : Mode
  settings : Settings
  scale : Int
  anchor : Option Point
  capture : Option FeatureRef
  deriving DecidableEq, Repr

/-- A resolution result (R119); the handle is absent for GRID and NONE. -/
structure Resolution where
  s : Point
  feature : Feature
  handle : Option Handle
  index : BitVec 2
  captured : Bool
  constrained : Bool
  deriving DecidableEq, Repr

/-- The resolver's state (R110, R114, R122). `emptying` is an emptying of the capture that waits for the resolution in
progress to end. -/
structure Resolver where
  capture : Option FeatureRef
  emptying : Bool
  resolution : Option ResolutionInputs
  deriving DecidableEq, Repr

/-! ## The tool unit (chapter 7) -/

/-- The drawing tools (R123). -/
inductive Tool where
  | none
  | line
  | polyline
  | rect
  | circle
  | move
  deriving DecidableEq, Repr

/-- The tool context besides the tool, which is the active setting (R123). -/
structure ToolContext where
  count : BitVec 8
  first : Option Point
  last : Option Point
  deriving DecidableEq, Repr

/-- A drag segment: two world offsets from the drag base (R24). -/
structure DragSegment where
  o0 : Point
  o1 : Point
  deriving DecidableEq, Repr

/-- The drag base and the drag figure, oldest segment first (R125). -/
structure Drag where
  base : Option Point
  figure : List DragSegment
  deriving DecidableEq, Repr

/-- The buttons' names (section 7.2). -/
inductive ButtonName where
  | place
  | finish
  | cancel
  | aux
  deriving DecidableEq, Repr

/-- The commit waiting for its grant or in progress (R126): a copy of its queue entry, its button, whether the entry
still stands in the button event queue, and whether its resolution has begun. -/
structure CommitInHand where
  entry : QueueEntry
  button : ButtonName
  queued : Bool
  resolving : Bool
  deriving DecidableEq, Repr

/-- The kinds of commit record (R140). -/
inductive RecordKind where
  | place
  | finish
  | cancel
  | aux
  | menuPick
  deriving DecidableEq, Repr

/-- What a MENU_PICK record carries of its decoding and button (R137). -/
structure MenuPick where
  window : MenuId
  cell : BitVec 8
  aux : Bool
  deriving DecidableEq, Repr

/-- A commit record (R140). -/
structure CommitRecord where
  seq : Half
  kind : RecordKind
  tool : Tool
  count : BitVec 8
  s : Option Point
  feature : Feature
  index : BitVec 2
  target : Option Handle
  learned : Option Handle
  r : TabletPoint
  report : Half
  menu : Option MenuPick
  completes : Bool
  learnSkipped : Bool
  deriving DecidableEq, Repr

/-- The tool unit's state (R146); the log is held oldest first (R142). -/
structure ToolUnit where
  context : ToolContext
  drag : Drag
  commit : Option CommitInHand
  log : List CommitRecord
  sequence : Half
  deriving DecidableEq, Repr

/-! ## The preview builder (chapter 8) -/

/-- The current view (R8). -/
structure View where
  ox : Int
  oy : Int
  scale : Int
  width : Int
  height : Int
  deriving DecidableEq, Repr

/-- The staged view, each field as written (R165). -/
structure StagedView where
  ox : Word
  oy : Word
  scale : Word
  width : Word
  height : Word
  deriving DecidableEq, Repr

/-- The styles of an entry (section 8.3). -/
inductive Style where
  | solid
  | dashed
  | dotted
  | bright
  deriving DecidableEq, Repr

/-- The layers of an entry (section 8.3). -/
inductive Layer where
  | cursor
  | aperture
  | marker
  | rubber
  | drag
  deriving DecidableEq, Repr

/-- The description of a build (R155); `menu` holds window and hover cell of a menu build. -/
structure Header where
  build : Half
  report : Half
  viewGen : BitVec 8
  tableGen : Half
  absent : Bool
  link : LinkState
  menu : Option (MenuId × BitVec 8)
  captured : Bool
  constrained : Bool
  deriving DecidableEq, Repr

/-- A bank entry (section 8.3). -/
inductive Entry where
  | header (h : Header)
  | cursorInfo (p : Point) (feature : Feature)
  | move (p : Point) (style : Style) (layer : Layer)
  | draw (p : Point) (style : Style) (layer : Layer)
  | endMark
  deriving DecidableEq, Repr

/-- The states of a bank (R164). -/
inductive BankState where
  | free
  | building
  | ready
  | shown
  deriving DecidableEq, Repr

/-- A frame bank: its state and the entries written into it from entry 0 on (R154). -/
structure Bank where
  state : BankState
  entries : List Entry
  deriving DecidableEq, Repr

/-- The snapshot of a build (R150). -/
structure Snapshot where
  settings : Settings
  view : View
  viewGen : BitVec 8
  condition : CursorCondition
  f : TabletPoint
  report : Half
  link : LinkState
  context : ToolContext
  drag : Drag
  lastDrawing : Option Point
  deriving DecidableEq, Repr

/-- The three sorts of build (R151): a cursor build with its cursor point and the mode of its decoding, a menu
build with its window and hover cell, an absent build. -/
inductive BuildSort where
  | cursor (c : Point) (mode : Mode)
  | menu (window : MenuId) (cell : BitVec 8)
  | absent
  deriving DecidableEq, Repr

/-- The course of a build (R152): waiting for its grant, resolving under it, composing with the result, if any, and
the table generation it carries. -/
inductive BuildPhase where
  | waiting
  | resolving
  | composing (result : Option Resolution) (tableGen : Half)
  deriving DecidableEq, Repr

/-- The build in flight (R148). -/
structure Build where
  bank : Fin 3
  number : Half
  snapshot : Snapshot
  sort : BuildSort
  phase : BuildPhase
  deriving DecidableEq, Repr

/-- The builder's state (R170). -/
structure Builder where
  rebuild : Bool
  banks : Vector Bank 3
  build : Option Build
  counter : Half
  lastDrawing : Option Point
  view : View
  staged : StagedView
  stagedWritten : Bool
  viewGen : BitVec 8
  streamPtr : Nat
  deriving DecidableEq, Repr

/-! ## Pick slots, notices and ports (chapters 9 and 10) -/

/-- The control state of a pick slot (R171). -/
inductive PickControl where
  | idle
  | waiting
  | searching
  deriving DecidableEq, Repr

/-- A pick slot (R171, R172). -/
structure PickSlot where
  x : Word
  y : Word
  aperture : Word
  choice : Word
  mask : Half
  matchTag : Half
  enables : BitVec 6
  control : PickControl
  found : Bool
  handle : Option Handle
  feature : Feature
  index : BitVec 2
  point : Point
  aborted : Bool
  blocked : Bool
  deriving DecidableEq, Repr

/-- A notice unit (R188, R189): the raised event flags and the enable set. The bits of level notices are 0 in
`raised`; their conditions are computed. -/
structure NoticeUnit (w : Nat) where
  raised : BitVec w
  enabled : BitVec w
  deriving DecidableEq, Repr

/-- The read latch when it is loaded (R180). -/
structure ReadLatch where
  location : Half
  value : Half
  deriving DecidableEq, Repr

/-- The two ports (R179, R180), with the value each port's last read returned (the model's own fields, log 6). -/
structure Ports where
  appIndex : Half
  dispIndex : Half
  latch : Option ReadLatch
  appData : Half
  dispData : Word
  deriving DecidableEq, Repr

/-- The whole state of the engine, and the queue of commands that wait. -/
structure State where
  /-- Link receiver (R45). -/
  link : Link
  /-- Staged settings (R184). -/
  staged : Settings
  /-- Active settings (R184). -/
  active : Settings
  /-- Apply pending (R185). -/
  applyPending : Bool
  /-- RUN or RESETTING (R183). -/
  engine : EngineState
  /-- Snap target table (R78). -/
  table : Table
  /-- Table access arbiter (R75). -/
  arbiter : Arbiter
  /-- Update engine (R98). -/
  update : UpdateEngine
  /-- Resolver (R122). -/
  resolver : Resolver
  /-- Tool unit (R146). -/
  tool : ToolUnit
  /-- Preview builder (R170). -/
  builder : Builder
  /-- Pick slot 0 (R178). -/
  pick0 : PickSlot
  /-- Pick slot 1 (R178). -/
  pick1 : PickSlot
  /-- Notice unit of the application port (R188). -/
  appNotices : NoticeUnit 14
  /-- Notice unit of the display port (R188). -/
  dispNotices : NoticeUnit 3
  /-- INDEX of each port, read latch, and the values last read (R179, R180; log 6). -/
  ports : Ports
  /-- The words the last completed write access of the memory master wrote, as address and word, in order of
  writing (R88, R94; the model's own field, log 7). -/
  masterWrites : List (Word × Word)
  /-- The commands that wait, first in, first out (the model's own field, log 2). -/
  pending : List Instr
  deriving DecidableEq, Repr

/-! ## The state after power-on (R190) -/

/-- The link receiver after power-on (R45). -/
def Link.reset : Link where
  assembler := .hunt
  errors := 0
  run := 0
  presence := Vector.replicate 8 .absent
  condition := .none
  f := ⟨0, 0⟩
  fValid := false
  rawLatch := ⟨0, 0⟩
  report := 0
  buttons := Vector.replicate 4 ⟨false, none⟩
  queue := []

/-- A menu window after power-on (R46). -/
def MenuWindow.reset : MenuWindow where
  mode := 0
  x0 := 0
  y0 := 0
  width := 8
  height := 8
  columns := 1
  rows := 1

/-- Every setting after power-on, the same for both copies (R184; the values by the rules INVENTORY.md lists). -/
def Settings.reset : Settings where
  originX := 0
  originY := 0
  gainX := 16384
  gainY := 16384
  holdBand := 1
  debounce := 5
  activeDevice := 0
  presenceTimeout := 5
  linkRate := 1
  tool := 0
  constraint := 0
  closeHint := 0
  enables := 0x4F
  aperture := 8
  release := 2
  showAperture := 0
  crosshair := 0
  arm := 16
  marker := 4
  chords := 32
  learnCap := 16
  learnTag := 0xFF00
  pitchX := 100
  pitchY := 100
  gridX := 0
  gridY := 0
  filters := #v[⟨1, 0, 0⟩, ⟨0, 0, 0⟩, ⟨0, 0, 0⟩, ⟨0, 0, 0⟩]
  windowA := MenuWindow.reset
  windowB := MenuWindow.reset

/-- The table after power-on (R78). -/
def Table.reset : Table where
  slots := Vector.replicate 1024 ⟨0, none⟩
  originX := -32768
  originY := -32768
  k := 12
  bins := Vector.replicate 256 []
  freeRefs := Config.poolSize
  wide := []
  learned := []
  generation := 0

/-- The arbiter after power-on (R75). -/
def Arbiter.reset : Arbiter where
  holder := none
  waiting := ⟨false, false, false, false, false⟩
  turn := .pick1

/-- The last-list record when cleared (R92). -/
def LastList.cleared : LastList := ⟨⟨0, 0⟩, .none, 0, 0⟩

/-- The update engine after power-on (R98). -/
def UpdateEngine.reset : UpdateEngine where
  submitLo := 0
  lastSerial := 0
  inFlight := none
  waiting := none
  teardown := false
  done := 0
  record := LastList.cleared

/-- The resolver after power-on (R122). -/
def Resolver.reset : Resolver := ⟨none, false, none⟩

/-- The tool context with no anchors (R123). -/
def ToolContext.empty : ToolContext := ⟨0, none, none⟩

/-- No base and no figure (R125). -/
def Drag.empty : Drag := ⟨none, []⟩

/-- The tool unit after power-on (R146). -/
def ToolUnit.reset : ToolUnit := ⟨ToolContext.empty, Drag.empty, none, [], 0⟩

/-- The HEADER of bank 0 after power-on (R164). -/
def Header.reset : Header := ⟨0, 0, 0, 0, true, .tracking, none, false, false⟩

/-- Bank 0 after power-on (R164). -/
def Bank.initial : Bank := ⟨.shown, [.header Header.reset, .cursorInfo ⟨0, 0⟩ .none, .endMark]⟩

/-- The builder after power-on (R170). -/
def Builder.reset : Builder where
  rebuild := false
  banks := #v[Bank.initial, ⟨.free, []⟩, ⟨.free, []⟩]
  build := none
  counter := 0
  lastDrawing := none
  view := ⟨0, 0, 256, 4096, 4096⟩
  staged := ⟨0, 0, 256, 4096, 4096⟩
  stagedWritten := false
  viewGen := 0
  streamPtr := 0

/-- A pick slot after power-on (R178). -/
def PickSlot.reset : PickSlot where
  x := 0
  y := 0
  aperture := 1
  choice := 0
  mask := 0
  matchTag := 0
  enables := 0x0F
  control := .idle
  found := false
  handle := none
  feature := .none
  index := 0
  point := ⟨0, 0⟩
  aborted := false
  blocked := false

/-- The state after power-on: every block at the values its reset table gives, the engine in RUN, every notice
disabled and clear, bank 0 SHOWN (R190). -/
def State.reset : State where
  link := Link.reset
  staged := Settings.reset
  active := Settings.reset
  applyPending := false
  engine := .run
  table := Table.reset
  arbiter := Arbiter.reset
  update := UpdateEngine.reset
  resolver := Resolver.reset
  tool := ToolUnit.reset
  builder := Builder.reset
  pick0 := PickSlot.reset
  pick1 := PickSlot.reset
  appNotices := ⟨0, 0⟩
  dispNotices := ⟨0, 0⟩
  ports := ⟨0, 0, none, 0, 0⟩
  masterWrites := []
  pending := []

end Sys2Proof.Machine
end

