-- ==== Sys2Proof/Machine/Arith.lean ====
section
/-! DEFINITION. The computations of chapter 1 on exact integers (R1 to R24). `/` on Int rounds toward −∞ for a positive
divisor, which is the floor of R3. -/

namespace Sys2Proof.Machine

/-! ## Rounding and saturation (R3 to R6) -/

/-- Ceiling of n/d for d > 0 (R3). -/
def ceilDiv (n d : Int) : Int := (n + d - 1) / d

/-- Round half up of n/d for d > 0 (R4). -/
def roundHalfUp (n d : Int) : Int := (2 * n + d) / (2 * d)

/-- Round half away of n/d for d > 0 (R5). -/
def roundHalfAway (n d : Int) : Int := if 0 ≤ n then roundHalfUp n d else -roundHalfUp (-n) d

/-- v brought into lo..hi. -/
def clampInt (lo hi v : Int) : Int := if v < lo then lo else if hi < v then hi else v

/-- World saturation of a coordinate (R6). -/
def sat (v : Int) : Int := clampInt Config.worldMin Config.worldMax v

/-- World saturation of each axis of a point (R6). -/
def satPoint (x y : Int) : Point := ⟨sat x, sat y⟩

/-- A coordinate lies in the world range (R1). -/
def inWorld (v : Int) : Bool := Config.worldMin ≤ v && v ≤ Config.worldMax

/-- Both coordinates of a point lie in the world range (R1). -/
def Point.inWorld (p : Point) : Bool := Machine.inWorld p.x && Machine.inWorld p.y

/-! ## From the tablet to the world (R7 to R9) -/

/-- The calibration of one axis (R7): tablet coordinate f, origin t0, gain g, display size size. -/
def calibrate (f t0 g size : Int) : Int :=
  clampInt 0 (16 * size - 1) (((f - t0) * g + 2048) / 4096)

/-- The view mapping of one axis (R9): origin o, subunit coordinate s, scale. -/
def viewMap (o s scale : Int) : Int := sat (o + (s * scale + 2048) / 4096)

/-- The tablet mapping (R9): the cursor point of a filtered position under the given settings and view. -/
def cursorPoint (settings : Settings) (view : View) (f : TabletPoint) : Point where
  x := viewMap view.ox (calibrate f.x.toNat settings.originX.toNat settings.gainX.toNat view.width) view.scale
  y := viewMap view.oy (calibrate f.y.toNat settings.originY.toNat settings.gainY.toNat view.height) view.scale

/-! ## Display lengths (R10 to R12) -/

/-- The world length of a display length m (R10). -/
def worldLength (m scale : Int) : Int := ceilDiv (m * scale) 256

/-- The upper end of the full crosshair's span on one axis (R11); the lower end is the view origin. -/
def spanEnd (o size scale : Int) : Int := sat (o + (size * scale + 128) / 256)

/-- The corners of the square of half side w about c, in the order of R12. -/
def squareCorners (c : Point) (w : Int) : List Point :=
  [satPoint (c.x - w) (c.y - w), satPoint (c.x + w) (c.y - w), satPoint (c.x + w) (c.y + w),
    satPoint (c.x - w) (c.y + w)]

/-! ## Distances and the grid (R13, R14) -/

/-- The squared distance of two points (R13). -/
def dist2 (p q : Point) : Int := (p.x - q.x) * (p.x - q.x) + (p.y - q.y) * (p.y - q.y)

/-- The aperture, release and pick tests: within the distance a, boundary included (R13). -/
def within (p q : Point) (a : Int) : Bool := dist2 p q ≤ a * a

/-- The grid on one axis (R14): coordinate x, pitch, grid origin. -/
def gridAxis (x pitch origin : Int) : Int :=
  if pitch = 0 then x else sat (origin + (2 * (x - origin) + pitch) / (2 * pitch) * pitch)

/-! ## Points derived from targets (R15 to R17) -/

/-- The midpoint of a segment (R15). -/
def midpoint (a b : Point) : Point := satPoint ((a.x + b.x + 1) / 2) ((a.y + b.y + 1) / 2)

/-- The quadrant points of a circle by index: east, north, west, south (R16). -/
def quadrant (c : Point) (r : Int) (index : BitVec 2) : Point :=
  match index.toNat with
  | 0 => satPoint (c.x + r) c.y
  | 1 => satPoint c.x (c.y + r)
  | 2 => satPoint (c.x - r) c.y
  | _ => satPoint c.x (c.y - r)

/-- The nearest point on the segment ab to p (R17). -/
def nearestOnSegment (a b p : Point) : Point :=
  let dx := b.x - a.x
  let dy := b.y - a.y
  let l := dx * dx + dy * dy
  let t := (p.x - a.x) * dx + (p.y - a.y) * dy
  if l = 0 then a
  else if t ≤ 0 then a
  else if l ≤ t then b
  else ⟨a.x + roundHalfAway (t * dx) l, a.y + roundHalfAway (t * dy) l⟩

/-! ## Angle constraint (R18, R19) -/

/-- The direction a constraint chose (R18). -/
inductive Direction where
  | none
  | horizontal
  | vertical
  | diagonal
  deriving DecidableEq, Repr

/-- The constraint modes (R18). -/
inductive ConstraintMode where
  | free
  | ortho
  | octo
  deriving DecidableEq, Repr

/-- The ORTHO constraint of c about the anchor a (R18). -/
def constrainOrtho (a c : Point) : Point × Direction :=
  if c = a then (c, .none)
  else if (c.y - a.y).natAbs ≤ (c.x - a.x).natAbs then (⟨c.x, a.y⟩, .horizontal)
  else (⟨a.x, c.y⟩, .vertical)

/-- The OCTO constraint of c about the anchor a (R18, R19). -/
def constrainOcto (a c : Point) : Point × Direction :=
  let dx := c.x - a.x
  let dy := c.y - a.y
  let wide := dx.natAbs
  let high := dy.natAbs
  if c = a then (c, .none)
  else if 128 * high ≤ 53 * wide then (⟨c.x, a.y⟩, .horizontal)
  else if 128 * wide ≤ 53 * high then (⟨a.x, c.y⟩, .vertical)
  else
    let m : Int := ((wide + high + 1) / 2 : Nat)
    (satPoint (a.x + dx.sign * m) (a.y + dy.sign * m), .diagonal)

/-- The constraint of c about the anchor a (R18); FREE leaves c. -/
def constrain (mode : ConstraintMode) (a c : Point) : Point × Direction :=
  match mode with
  | .free => (c, .none)
  | .ortho => constrainOrtho a c
  | .octo => constrainOcto a c

/-! ## Circles (R20 to R22) -/

/-- Settles the bits of a square root from bit k down: the greatest r' that agrees with r above those bits and has
r' * r' at most d. -/
def isqrtBits (d : Nat) : Nat → Nat → Nat
  | 0, r => r
  | k + 1, r => if (r + 2 ^ k) * (r + 2 ^ k) ≤ d then isqrtBits d k (r + 2 ^ k) else isqrtBits d k r

/-- The greatest integer whose square does not exceed d, for d below 2^50, which every D of R20 is (R2). -/
def isqrt (d : Nat) : Nat := isqrtBits d 25 0

/-- The radius of the circle with centre c through p (R20). -/
def circleRadius (c p : Point) : Int :=
  let d := (dist2 c p).toNat
  let s := isqrt d
  let r : Nat := if s < d - s * s then s + 1 else s
  clampInt 0 Config.worldMax r

/-- T[k] of the cosine table (R21). -/
def cosineTable (k : Nat) : Int := Config.cosines.getD k 0

/-- Cosine and sine, times 65536, of the angle index a (R22). -/
def cosSin (a : Nat) : Int × Int :=
  let k := a % 16
  match a / 16 with
  | 0 => (cosineTable k, cosineTable (16 - k))
  | 1 => (-cosineTable (16 - k), cosineTable k)
  | 2 => (-cosineTable k, -cosineTable (16 - k))
  | _ => (cosineTable (16 - k), -cosineTable k)

/-- Vertex j of the n-chord circle with centre c and radius r (R22). -/
def chordVertex (c : Point) (r : Int) (n j : Nat) : Point :=
  let cs := cosSin (j * (64 / n))
  satPoint (c.x + roundHalfAway (r * cs.1) 65536) (c.y + roundHalfAway (r * cs.2) 65536)

/-! ## Boxes and offsets (R23, R24) -/

/-- A box with both corners inclusive (R23). -/
structure Box where
  xmin : Int
  ymin : Int
  xmax : Int
  ymax : Int
  deriving DecidableEq, Repr

/-- The square box of half side w about c, world-saturated (R12, R107, R175). -/
def squareBox (c : Point) (w : Int) : Box := ⟨sat (c.x - w), sat (c.y - w), sat (c.x + w), sat (c.y + w)⟩

/-- The bounding box of a target (R23). -/
def Shape.box : Shape → Box
  | .point p => ⟨p.x, p.y, p.x, p.y⟩
  | .segment a b => ⟨min a.x b.x, min a.y b.y, max a.x b.x, max a.y b.y⟩
  | .circle c r => squareBox c r

/-- The offsets of a drag segment from the base (R24). -/
def dragOffsets (base p0 p1 : Point) : DragSegment :=
  ⟨⟨p0.x - base.x, p0.y - base.y⟩, ⟨p1.x - base.x, p1.y - base.y⟩⟩

/-- The end of a drag segment translated so that the base lies on s (R24). -/
def translated (s offset : Point) : Point := satPoint (s.x + offset.x) (s.y + offset.y)

end Sys2Proof.Machine
end

