-- ==== Sys2Proof/Machine/Operands.lean ====
section
/-! DEFINITION. The layouts of section 10.5 and the codes of the settings: fields of report frames (R191), of handles
and update cells (R192), of bank entries (R193), and what the active settings' words mean (R186). -/

namespace Sys2Proof.Machine

/-! ## Report frames (R26, R191) -/

/-- Bit 7, the marker of byte 0 (R26). -/
def isMarker (b : Byte) : Bool := b.getLsbD 7

/-- The device number of byte 0 (R191). -/
def frameDevice (b0 : Byte) : Fin 8 := (b0.extractLsb' 4 3).toFin

/-- The proximity bit of byte 0 (R191). -/
def frameProximity (b0 : Byte) : Bool := b0.getLsbD 3

/-- The reserved bits of byte 0 are all 0 (R191). -/
def reserved0Ok (b0 : Byte) : Bool := b0.extractLsb' 0 3 == 0

/-- The reserved bits of byte 1 are all 0 (R191). -/
def reserved1Ok (b1 : Byte) : Bool := b1.extractLsb' 4 3 == 0

/-- The button states of byte 1 (R191). -/
def frameButtons (b1 : Byte) : BitVec 4 := b1.extractLsb' 0 4

/-- A coordinate from its high and its low seven bits (R26). -/
def frameCoordinate (high low : Byte) : BitVec 14 := high.extractLsb' 0 7 ++ low.extractLsb' 0 7

/-- The check of bytes 0 to 5: their sum modulo 128 (R26). -/
def frameCheck (bytes : List Byte) : Nat := (bytes.map BitVec.toNat).sum % 128

/-- A good frame's content (R26). -/
structure Frame where
  device : Fin 8
  proximity : Bool
  buttons : BitVec 4
  r : TabletPoint
  deriving DecidableEq, Repr

/-- The content of bytes 0 to 5 of a frame (R26). -/
def frameOf (b0 b1 b2 b3 b4 b5 : Byte) : Frame where
  device := frameDevice b0
  proximity := frameProximity b0
  buttons := frameButtons b1
  r := ⟨frameCoordinate b2 b3, frameCoordinate b4 b5⟩

/-! ## Handles (R192) -/

/-- The no-handle value (R192). -/
def noHandle : Half := 0xFFFF

/-- A handle's 16-bit form (R192). -/
def Handle.code (h : Handle) : Half := (0 : BitVec 1) ++ h.tag ++ BitVec.ofNat 10 h.slot.val

/-- A handle or the no-handle value (R119, R192). -/
def handleCode : Option Handle → Half
  | some h => h.code
  | none => noHandle

/-- The handle a 16-bit value names, if it is the form of one (R192). -/
def handleOf (v : Half) : Option Handle :=
  if v.getLsbD 15 then none else some ⟨(v.extractLsb' 0 10).toFin, v.extractLsb' 10 5⟩

/-! ## Update cells (R79, R192) -/

end Sys2Proof.Machine

namespace Sys2Proof

/-- EO of the control word (R192). -/
def Cell.eo (c : Cell) : Bool := c.control.getLsbD 31

/-- The op code of the control word (R192). -/
def Cell.op (c : Cell) : Nat := (c.control.extractLsb' 24 4).toNat

/-- The kind code of the control word (R192). -/
def Cell.kind (c : Cell) : Nat := (c.control.extractLsb' 0 2).toNat

/-- The class tag of an INSERT, and the match of a DELETE_CLASS: bits 15..0 of the class word (R192). -/
def Cell.tag (c : Cell) : Half := c.classWord.extractLsb' 0 16

/-- The mask of a DELETE_CLASS: bits 31..16 of the class word (R192). -/
def Cell.mask (c : Cell) : Half := c.classWord.extractLsb' 16 16

/-- P0, each coordinate a signed word (R79). -/
def Cell.p0 (c : Cell) : Machine.Point := ⟨c.p0x.toInt, c.p0y.toInt⟩

/-- P1 of a SEGMENT (R79). -/
def Cell.p1 (c : Cell) : Machine.Point := ⟨c.third.toInt, c.p1y.toInt⟩

/-- The handle word's low half, a handle in its 16-bit form (R192). -/
def Cell.handle (c : Cell) : Half := c.handleWord.extractLsb' 0 16

end Sys2Proof

namespace Sys2Proof.Machine

/-- The results a write-back may carry (R79, R192). -/
inductive CellResult where
  | ok
  | tableFull
  | wideFull
  | staleHandle
  | badKind
  | badOp
  | outOfRange
  | dragFull
  | noBase
  | tornDown
  | badBinSize
  deriving DecidableEq, Repr

/-- The result codes (R192). -/
def CellResult.code : CellResult → BitVec 8
  | .ok => 0
  | .tableFull => 1
  | .wideFull => 2
  | .staleHandle => 3
  | .badKind => 4
  | .badOp => 5
  | .outOfRange => 6
  | .dragFull => 7
  | .noBase => 8
  | .tornDown => 9
  | .badBinSize => 10

/-- The control word of a write-back (R88, R192): the result, EO and TD clear, every other bit as fetched. -/
def writeBackControl (c : Cell) (result : CellResult) : Word :=
  (c.control &&& 0x3F00FFFF) ||| (result.code.setWidth 32 <<< 16)

/-- The control word of a marking (R94, R192): TD set, EO clear, result TORN_DOWN, op NOP, all else 0. -/
def markingControl : Word := 0x40000000 ||| (CellResult.tornDown.code.setWidth 32 <<< 16)

/-- The byte address of word n of a cell (R192). -/
def cellWord (address : Word) (n : Nat) : Word := address + BitVec.ofNat 32 (4 * n)

/-- A cell address is a multiple of 32 (R79). -/
def aligned (address : Word) : Bool := address.extractLsb' 0 5 == 0

/-! ## Feature, kind and tool codes (R186, R193, R194) -/

/-- The feature codes (R193). -/
def Feature.code : Feature → Nat
  | .none => 0
  | .node => 1
  | .endPoint => 2
  | .mid => 3
  | .center => 4
  | .quad => 5
  | .near => 6
  | .grid => 7

/-- The feature is one of a target (R105), neither NONE nor GRID. -/
def Feature.isObject : Feature → Bool
  | .none => false
  | .grid => false
  | _ => true

/-- The bit of a feature in the feature enables (R186); NONE has none. -/
def Feature.enableBit : Feature → Option Nat
  | .node => some 0
  | .endPoint => some 1
  | .mid => some 2
  | .center => some 3
  | .quad => some 4
  | .near => some 5
  | .grid => some 6
  | .none => Option.none

/-- A feature's flag in a word of feature enables (R104, R186). -/
def featureOn (enables : Half) (f : Feature) : Bool :=
  match f.enableBit with
  | some n => enables.getLsbD n
  | none => false

/-- The tool codes (R186). -/
def Tool.code : Tool → Nat
  | .none => 0
  | .line => 1
  | .polyline => 2
  | .rect => 3
  | .circle => 4
  | .move => 5

/-- The commit record kind codes (R194). -/
def RecordKind.code : RecordKind → Nat
  | .place => 0
  | .finish => 1
  | .cancel => 2
  | .aux => 3
  | .menuPick => 4

/-- The window codes (R193, R194). -/
def MenuId.code : MenuId → Nat
  | .a => 0
  | .b => 1

/-- The link state codes (R195). -/
def LinkState.code : LinkState → Nat
  | .tracking => 0
  | .degraded => 1
  | .offline => 2

/-- The cursor condition codes (R195). -/
def CursorCondition.code : CursorCondition → Nat
  | .none => 0
  | .out => 1
  | .inside => 2

/-- The stage codes, with 0 for no list in flight (R195). -/
def Stage.code : Stage → Nat
  | .fetching => 1
  | .waiting _ => 2
  | .granted _ => 3
  | .applying _ => 3
  | .writingBack _ _ _ => 4
  | .marking => 5

/-- The ending status codes (R195). -/
def ListStatus.code : ListStatus → Nat
  | .none => 0
  | .complete => 1
  | .stoppedUnowned => 2
  | .badLink => 3
  | .busError => 4
  | .tornDown => 5
  | .discarded => 6

/-- The grant holder codes (R195). -/
def Requester.code : Requester → Nat
  | .commit => 1
  | .build => 2
  | .update => 3
  | .pick0 => 4
  | .pick1 => 5

/-- The round-robin position codes (R195). -/
def Turn.code : Turn → Nat
  | .build => 0
  | .update => 1
  | .pick0 => 2
  | .pick1 => 3

/-- The bank state codes (R196). -/
def BankState.code : BankState → Nat
  | .free => 0
  | .building => 1
  | .ready => 2
  | .shown => 3

/-- The style codes (R193). -/
def Style.code : Style → Nat
  | .solid => 0
  | .dashed => 1
  | .dotted => 2
  | .bright => 3

/-- The layer codes (R193). -/
def Layer.code : Layer → Nat
  | .cursor => 0
  | .aperture => 1
  | .marker => 2
  | .rubber => 3
  | .drag => 4

/-! ## Bank entries (R193) -/

/-- 1 for true, 0 for false. -/
def bitOf (b : Bool) : Nat := if b then 1 else 0

/-- A signed value as a 32-bit word. -/
def signedWord (v : Int) : Word := BitVec.ofInt 32 v

/-- Word 2 of a HEADER (R193). -/
def Header.flags (h : Header) : Word :=
  let window := match h.menu with
    | some (w, _) => w.code
    | none => 0
  let cell := match h.menu with
    | some (_, c) => c.toNat
    | none => 0
  BitVec.ofNat 32 (bitOf h.absent + 2 * bitOf (h.link == .degraded) + 4 * bitOf (h.link == .offline)
    + 8 * bitOf h.menu.isSome + 16 * bitOf h.captured + 32 * bitOf h.constrained + 256 * window + 65536 * cell)

/-- Word 0 of a MOVE or a DRAW of the given type code (R193). -/
def strokeWord (type : Nat) (style : Style) (layer : Layer) : Word :=
  BitVec.ofNat 32 (type * 2 ^ 28 + style.code * 256 + layer.code)

/-- The three words of a bank entry; bits the layout gives to no field are 0 (R193; log 12). -/
def Entry.words : Entry → List Word
  | .header h =>
    [BitVec.ofNat 32 (h.viewGen.toNat * 65536 + h.build.toNat),
      BitVec.ofNat 32 (h.report.toNat * 65536 + h.tableGen.toNat), h.flags]
  | .cursorInfo p f => [BitVec.ofNat 32 (2 ^ 28 + f.code), signedWord p.x, signedWord p.y]
  | .move p style layer => [strokeWord 2 style layer, signedWord p.x, signedWord p.y]
  | .draw p style layer => [strokeWord 3 style layer, signedWord p.x, signedWord p.y]
  | .endMark => [BitVec.ofNat 32 (4 * 2 ^ 28), 0, 0]

/-- The END type word (R167). -/
def endWord : Word := BitVec.ofNat 32 (4 * 2 ^ 28)

/-! ## What the active settings' words mean (R186) -/

/-- The tool a code names, if any (R124, R186). -/
def toolOf (code : Half) : Option Tool :=
  match code.toNat with
  | 0 => some .none
  | 1 => some .line
  | 2 => some .polyline
  | 3 => some .rect
  | 4 => some .circle
  | 5 => some .move
  | _ => none

/-- The tool of a set of settings (R123); an active code always names one (log 18). -/
def Settings.toolInForce (st : Settings) : Tool := (toolOf st.tool).getD .none

/-- The constraint mode of a set of settings (R186). -/
def Settings.constraintMode (st : Settings) : ConstraintMode :=
  match st.constraint.toNat with
  | 0 => .free
  | 1 => .ortho
  | _ => .octo

/-- The active device (R37). -/
def Settings.device (st : Settings) : Fin 8 := (st.activeDevice.extractLsb' 0 3).toFin

/-- The presence timeout in the unit of command times (R36). -/
def Settings.presenceTime (st : Settings) : Nat :=
  st.presenceTimeout.toNat * Config.presenceUnitMs * Config.microsPerMs

/-- The debounce time in the unit of command times (R41). -/
def Settings.debounceTime (st : Settings) : Nat := st.debounce.toNat * Config.microsPerMs

/-- The unsigned value of a 16-bit setting (R186). -/
def half (h : Half) : Int := h.toNat

/-- The link state of a counter value (R33). -/
def linkStateOf (errors : BitVec 8) : LinkState :=
  if errors.toNat = Config.errorMax then .offline
  else if Config.errorDegraded ≤ errors.toNat then .degraded
  else .tracking

/-- The link state of the receiver (R33). -/
def Link.state (l : Link) : LinkState := linkStateOf l.errors

/-- The gap time in the unit of command times (R30). -/
def gapTime : Nat := Config.gapMs * Config.microsPerMs

end Sys2Proof.Machine
end

