-- ==== Sys2Proof/Machine/Flags.lean ====
section
/-! DEFINITION. The notice units: raising, clearing, enables, masked views and notice lines (R188 to R190). -/

namespace Sys2Proof.Machine

/-- The event notices of the application port (R188). -/
inductive AppNotice where
  | submitRefused
  | busError
  | logFull
  | commitRefused
  | buttonOverrun
  | linkWarn
  | linkState
  | presenceChange
  | pick0Done
  | settingsApplied
  | settingHeld
  | resetDone
  deriving DecidableEq, Repr

/-- The notices of the display port, all event notices (R188). -/
inductive DispNotice where
  | frameReady
  | pick1Done
  | viewClamped
  deriving DecidableEq, Repr

/-- The bit numbers of the application port (R188). -/
def AppNotice.bit : AppNotice → Nat
  | .submitRefused => 2
  | .busError => 3
  | .logFull => 4
  | .commitRefused => 5
  | .buttonOverrun => 6
  | .linkWarn => 7
  | .linkState => 8
  | .presenceChange => 9
  | .pick0Done => 10
  | .settingsApplied => 11
  | .settingHeld => 12
  | .resetDone => 13

/-- The bit numbers of the display port (R188). -/
def DispNotice.bit : DispNotice → Nat
  | .frameReady => 0
  | .pick1Done => 1
  | .viewClamped => 2

/-- The word with the one bit n set. -/
def oneBit (w n : Nat) : BitVec w := BitVec.ofNat w (2 ^ n)

/-- A raised notice stays raised and is not counted (R188). -/
def NoticeUnit.raise {w : Nat} (u : NoticeUnit w) (bit : Nat) : NoticeUnit w :=
  { u with raised := u.raised ||| oneBit w bit }

/-- A write to NOTICE_RAW clears the flags whose bits are 1 (R189). -/
def NoticeUnit.clear {w : Nat} (u : NoticeUnit w) (value : BitVec w) : NoticeUnit w :=
  { u with raised := u.raised &&& ~~~value }

/-- A write to ENABLE_SET turns on the enables whose bits are 1 (R189). -/
def NoticeUnit.enable {w : Nat} (u : NoticeUnit w) (value : BitVec w) : NoticeUnit w :=
  { u with enabled := u.enabled ||| value }

/-- A write to ENABLE_CLEAR turns off the enables whose bits are 1 (R189). -/
def NoticeUnit.disable {w : Nat} (u : NoticeUnit w) (value : BitVec w) : NoticeUnit w :=
  { u with enabled := u.enabled &&& ~~~value }

/-- An application event notice is raised (R188). -/
def raiseApp (n : AppNotice) (s : State) : State := { s with appNotices := s.appNotices.raise n.bit }

/-- A display event notice is raised (R188). -/
def raiseDisp (n : DispNotice) (s : State) : State := { s with dispNotices := s.dispNotices.raise n.bit }

/-- UPDATE_DONE is on while the done count is above 0 (R90). -/
def updateDone (s : State) : Bool := s.update.done != 0

/-- COMMIT_READY is on while the log holds a record (R142). -/
def commitReady (s : State) : Bool := !s.tool.log.isEmpty

/-- The level notices' bits (R188). -/
def levelBits (s : State) : BitVec 14 := BitVec.ofNat 14 (bitOf (updateDone s) + 2 * bitOf (commitReady s))

/-- The raw flags of the application port as NOTICE_RAW reads them (R189). -/
def appRaw (s : State) : BitVec 14 := s.appNotices.raised ||| levelBits s

/-- The masked view of the application port (R189). -/
def appMasked (s : State) : BitVec 14 := appRaw s &&& s.appNotices.enabled

/-- The masked view of the display port (R189). -/
def dispMasked (s : State) : BitVec 3 := s.dispNotices.raised &&& s.dispNotices.enabled

/-- The application port's notice line: asserted while its masked view holds a notice (R189). -/
def appLine (s : State) : Bool := appMasked s != 0

/-- The display port's notice line (R189). -/
def dispLine (s : State) : Bool := dispMasked s != 0

/-- A write of the application port's NOTICE_RAW: event flags whose bits are 1 are cleared; the bits of level notices
are ignored (R189). -/
def clearApp (value : BitVec 14) (s : State) : State := { s with appNotices := s.appNotices.clear value }

/-- A write of the display port's NOTICE_RAW (R189). -/
def clearDisp (value : BitVec 3) (s : State) : State := { s with dispNotices := s.dispNotices.clear value }

end Sys2Proof.Machine
end

