-- ==== Sys2Proof/Machine/Ops.lean ====
section
/-! DEFINITION. The operations that several blocks share: requests for a rebuild, changes of the table, the table
access arbiter, the state's updates by block. -/

namespace Sys2Proof.Machine

/-! ## Updates by block -/

/-- The link receiver changes. -/
def State.withLink (s : State) (l : Link) : State := { s with link := l }

/-- The arbiter changes. -/
def State.withArbiter (s : State) (a : Arbiter) : State := { s with arbiter := a }

/-- The update engine changes. -/
def State.withUpdate (s : State) (u : UpdateEngine) : State := { s with update := u }

/-- The resolver changes. -/
def State.withResolver (s : State) (r : Resolver) : State := { s with resolver := r }

/-- The tool unit changes. -/
def State.withTool (s : State) (t : ToolUnit) : State := { s with tool := t }

/-- The builder changes. -/
def State.withBuilder (s : State) (b : Builder) : State := { s with builder := b }

/-- The ports change. -/
def State.withPorts (s : State) (p : Ports) : State := { s with ports := p }

/-- The pick slot of a number. -/
def State.pick (s : State) : PickId → PickSlot
  | .pick0 => s.pick0
  | .pick1 => s.pick1

/-- A pick slot changes. -/
def State.withPick (s : State) (i : PickId) (p : PickSlot) : State :=
  match i with
  | .pick0 => { s with pick0 := p }
  | .pick1 => { s with pick1 := p }

/-! ## Requests for a rebuild and changes of the table -/

/-- The rebuild pending flag is set when `changed` holds; setting it while it is set leaves it set (R147). -/
def requestRebuildIf (changed : Bool) (s : State) : State :=
  { s with builder := { s.builder with rebuild := s.builder.rebuild || changed } }

/-- The rebuild pending flag is set (R147). -/
def requestRebuild (s : State) : State := requestRebuildIf true s

/-- The table takes its contents after an operation; an advance of the generation sets rebuild pending (R74). -/
def putTable (t : Table) (s : State) : State :=
  requestRebuildIf (t.generation != s.table.generation) { s with table := t }

/-- The tool context and drag figure take their contents after a commit; a change sets rebuild pending (R139). -/
def putContext (context : ToolContext) (drag : Drag) (s : State) : State :=
  requestRebuildIf (context != s.tool.context || drag != s.tool.drag)
    { s with tool := { s.tool with context := context, drag := drag } }

/-! ## The table access arbiter (R75 to R77) -/

/-- Whether a requester's request waits (R75). -/
def Requests.get (w : Requests) : Requester → Bool
  | .commit => w.commit
  | .build => w.build
  | .update => w.update
  | .pick0 => w.pick0
  | .pick1 => w.pick1

/-- A requester's request waits or no longer waits. -/
def Requests.set (w : Requests) (r : Requester) (v : Bool) : Requests :=
  match r with
  | .commit => { w with commit := v }
  | .build => { w with build := v }
  | .update => { w with update := v }
  | .pick0 => { w with pick0 := v }
  | .pick1 => { w with pick1 := v }

/-- The requester of a turn. -/
def Turn.requester : Turn → Requester
  | .build => .build
  | .update => .update
  | .pick0 => .pick0
  | .pick1 => .pick1

/-- The round-robin position after a grant to a requester: COMMIT leaves it as it was (R76). -/
def Turn.after (turn : Turn) : Requester → Turn
  | .commit => turn
  | .build => .build
  | .update => .update
  | .pick0 => .pick0
  | .pick1 => .pick1

/-- The cyclic order BUILD, UPDATE, PICK0, PICK1 from the one after the position on (R76). -/
def Turn.order : Turn → List Turn
  | .build => [.update, .pick0, .pick1, .build]
  | .update => [.pick0, .pick1, .build, .update]
  | .pick0 => [.pick1, .build, .update, .pick0]
  | .pick1 => [.build, .update, .pick0, .pick1]

/-- The requester the next grant goes to: COMMIT when it waits, otherwise the first waiting one in turn (R76). -/
def Arbiter.next (a : Arbiter) : Option Requester :=
  if a.waiting.commit then some .commit
  else (a.turn.order.map Turn.requester).find? a.waiting.get

/-- What a grant changes at its requester (R85, R173): a pick slot enters SEARCHING and the list's cell APPLYING. The
operations of COMMIT, BUILD and UPDATE begin at TABLE_GRANT (log 4). -/
def enterGrant (r : Requester) (s : State) : State :=
  match r with
  | .update =>
    match s.update.inFlight with
    | some ⟨list, applied, cell, .waiting c⟩ =>
      s.withUpdate { s.update with inFlight := some ⟨list, applied, cell, .granted c⟩ }
    | _ => s
  | .pick0 => { s with pick0 := { s.pick0 with control := .searching } }
  | .pick1 => { s with pick1 := { s.pick1 with control := .searching } }
  | .commit => s
  | .build => s

/-- The table is granted to a requester (R76). -/
def grantTo (r : Requester) (s : State) : State :=
  enterGrant r (s.withArbiter
    { holder := some r, waiting := s.arbiter.waiting.set r false, turn := s.arbiter.turn.after r })

/-- When no grant is held and requests wait, the next grant is made (R76). -/
def arbitrate (s : State) : State :=
  match s.arbiter.holder, s.arbiter.next with
  | none, some r => grantTo r s
  | _, _ => s

/-- A request arrives: it waits, and is granted at once when the table is free (R76). -/
def request (r : Requester) (s : State) : State :=
  arbitrate (s.withArbiter { s.arbiter with waiting := s.arbiter.waiting.set r true })

/-- The request of an abandoned operation is withdrawn; a grant already made is released without any operation (R77). -/
def withdraw (r : Requester) (s : State) : State :=
  s.withArbiter
    { s.arbiter with
      holder := if s.arbiter.holder = some r then none else s.arbiter.holder
      waiting := s.arbiter.waiting.set r false }

/-- No grant is held. -/
def freeHolder (s : State) : State := s.withArbiter { s.arbiter with holder := none }

/-- A commit is in progress from its grant on (R87, R126). -/
def commitInProgress (s : State) : Bool := s.arbiter.holder == some .commit

/-! ## The engine state (R183) -/

/-- With the cell boundary reached (no list is left in flight) and the tool unit's reset event made (no commit is
left), the engine returns to RUN and RESET_DONE is raised (R183; log 11). -/
def settleReset (s : State) : State :=
  if s.engine = .resetting ∧ s.update.inFlight = none ∧ s.tool.commit = none then
    raiseApp .resetDone { s with engine := .run }
  else s

end Sys2Proof.Machine
end

