-- ==== Sys2Proof/Machine/TableOps.lean ====
section
/-! DEFINITION. The snap target table: handles, placement, gather, release, the table operations of update cells,
learning and trimming (R54 to R74). -/

namespace Sys2Proof.Machine

/-- Every slot number, ascending. -/
def allSlots : List SlotNo := List.finRange 1024

/-- Every bin number, ascending. -/
def allBins : List BinNo := List.finRange 256

/-! ## Slots and handles (R54 to R57) -/

/-- The target in a slot, if it is OCCUPIED. -/
def Table.target (t : Table) (n : SlotNo) : Option Target := t.slots[n].target

/-- A slot is FREE (R54). -/
def Table.isFree (t : Table) (n : SlotNo) : Bool := (t.target n).isNone

/-- The number of occupied slots (R54). -/
def Table.occupied (t : Table) : Nat := (allSlots.filter fun n => !t.isFree n).length

/-- The handle of the target in a slot (R56). -/
def Table.handleAt (t : Table) (n : SlotNo) : Handle := ⟨n, t.slots[n].reuse⟩

/-- The target a handle names, unless the handle is stale (R56). -/
def Table.named (t : Table) (h : Handle) : Option Target :=
  if t.slots[h.slot].reuse = h.tag then t.target h.slot else none

/-- The lowest FREE slot (R57). -/
def Table.lowestFree (t : Table) : Option SlotNo := allSlots.find? t.isFree

/-! ## Bins, wide list, placement, gather (R58 to R62) -/

/-- The column of an x, or the row of a y, in the bin window (R58). -/
def binLine (origin : Int) (k : Nat) (v : Int) : Int := (v - origin) / 2 ^ k

/-- Column and row ranges of a box in the bin window (R60, R62). -/
def Table.columns (t : Table) (b : Box) : Int × Int := (binLine t.originX t.k b.xmin, binLine t.originX t.k b.xmax)

/-- The row range of a box in the bin window (R60, R62). -/
def Table.rows (t : Table) (b : Box) : Int × Int := (binLine t.originY t.k b.ymin, binLine t.originY t.k b.ymax)

/-- A line number lies inside the window (R58). -/
def lineInside (n : Int) : Bool := 0 ≤ n && n ≤ 15

/-- A bin lies in the given column and row ranges (R58, R62). -/
def binIn (columns rows : Int × Int) (b : BinNo) : Bool :=
  let c : Int := b.val % 16
  let r : Int := b.val / 16
  columns.1 ≤ c && c ≤ columns.2 && rows.1 ≤ r && r ≤ rows.2

/-- The box lies wholly inside the window (R60). -/
def Table.boxInside (t : Table) (b : Box) : Bool :=
  lineInside (t.columns b).1 && lineInside (t.columns b).2 && lineInside (t.rows b).1 && lineInside (t.rows b).2

/-- The bins a box overlaps, ascending (R60). -/
def Table.binsOf (t : Table) (b : Box) : List BinNo := allBins.filter (binIn (t.columns b) (t.rows b))

/-- Placement (R60): bins under its three conditions, otherwise the wide list when it has room, otherwise it fails. -/
def Table.place (t : Table) (b : Box) : Option Placement :=
  let bins := t.binsOf b
  if t.boxInside b ∧ bins.length ≤ Config.maxBinsPerTarget ∧ bins.length ≤ t.freeRefs then some (.bins bins)
  else if t.wide.length < Config.wideCap then some .wide
  else none

/-- A slot joins a set of slots held in ascending order. -/
def insertSlot (n : SlotNo) : List SlotNo → List SlotNo
  | [] => [n]
  | m :: rest => if n < m then n :: m :: rest else if n = m then m :: rest else m :: insertSlot n rest

/-- A slot leaves a set of slots. -/
def removeSlot (n : SlotNo) (l : List SlotNo) : List SlotNo := l.filter (· ≠ n)

/-- Each of some bins is edited. -/
def editBins (f : List SlotNo → List SlotNo) (numbers : List BinNo) (bins : Vector (List SlotNo) 256) :
    Vector (List SlotNo) 256 :=
  numbers.foldl (fun bs b => bs.set b.val (f bs[b.val]) b.isLt) bins

/-- The slot is entered by its placement: once in each bin, one reference each, or in the wide list (R59). -/
def Table.enter (t : Table) (n : SlotNo) : Placement → Table
  | .bins numbers =>
    { t with
      bins := editBins (insertSlot n) numbers t.bins
      freeRefs := t.freeRefs - numbers.length }
  | .wide => { t with wide := insertSlot n t.wide }

/-- The slot leaves the bins or the wide list of its placement, and its references return (R63). -/
def Table.leave (t : Table) (n : SlotNo) : Placement → Table
  | .bins numbers =>
    { t with
      bins := editBins (removeSlot n) numbers t.bins
      freeRefs := t.freeRefs + numbers.length }
  | .wide => { t with wide := removeSlot n t.wide }

/-- The gather (R62): the slots entered in the bins the query box reaches, and the wide list, in ascending order. -/
def Table.gather (t : Table) (q : Box) : List SlotNo :=
  let reached := allBins.filter (binIn (t.columns q) (t.rows q))
  allSlots.filter fun n => reached.any (fun b => t.bins[b].contains n) || t.wide.contains n

/-! ## Release and entry (R57, R63) -/

/-- The release of a slot (R63): out of bins or wide list, out of the learned list, FREE, reuse tag advanced. -/
def Table.release (t : Table) (n : SlotNo) : Table :=
  match t.target n with
  | none => t
  | some target =>
    let t := t.leave n target.placement
    { t with
      learned := if target.origin = .learned then removeSlot n t.learned else t.learned
      slots := t.slots.set n ⟨t.slots[n].reuse + 1, none⟩ }

/-- The release of several slots, in order. -/
def Table.releaseAll (t : Table) (l : List SlotNo) : Table := l.foldl Table.release t

/-- A record is written into a FREE slot and the slot is entered by the record's placement (R57, R64). -/
def Table.take (t : Table) (n : SlotNo) (target : Target) : Table :=
  let t := t.enter n target.placement
  { t with slots := t.slots.set n ⟨t.slots[n].reuse, some target⟩ }

/-- The table generation advances by one (R74). -/
def Table.advance (t : Table) : Table := { t with generation := t.generation + 1 }

/-! ## Table operations of update cells (R64 to R68) -/

/-- A table operation's outcome: the table after it, the result, and the word for the handle word when the op writes
it (R69, R79). -/
structure TableOutcome where
  table : Table
  result : CellResult
  handleWord : Option Word
  deriving DecidableEq, Repr

/-- The shape an INSERT cell describes, or the refusal by BAD_KIND or OUT_OF_RANGE (tests 1 and 2 of R64). -/
def insertShape (c : Cell) : Except CellResult Shape :=
  match c.kind with
  | 0 => if c.p0.inWorld then .ok (.point c.p0) else .error .outOfRange
  | 1 => if c.p0.inWorld && c.p1.inWorld then .ok (.segment c.p0 c.p1) else .error .outOfRange
  | 2 =>
    if c.p0.inWorld && decide (0 ≤ c.third.toInt) && decide (c.third.toInt ≤ Config.worldMax) then
      .ok (.circle c.p0 c.third.toInt.toNat)
    else .error .outOfRange
  | _ => .error .badKind

/-- A refused INSERT hands back the no-handle value (R64). -/
def insertRefused (t : Table) (r : CellResult) : TableOutcome := ⟨t, r, some (noHandle.setWidth 32)⟩

/-- INSERT (R64). -/
def Table.insert (t : Table) (c : Cell) : TableOutcome :=
  match insertShape c with
  | .error r => insertRefused t r
  | .ok shape =>
    match t.lowestFree with
    | none => insertRefused t .tableFull
    | some n =>
      match t.place shape.box with
      | none => insertRefused t .wideFull
      | some placement =>
        ⟨(t.take n ⟨shape, .application, c.tag, placement⟩).advance, .ok,
          some ((t.handleAt n).code.setWidth 32)⟩

/-- DELETE (R65). -/
def Table.delete (t : Table) (c : Cell) : TableOutcome :=
  match handleOf c.handle with
  | none => ⟨t, .staleHandle, none⟩
  | some h =>
    match t.named h with
    | none => ⟨t, .staleHandle, none⟩
    | some _ => ⟨(t.release h.slot).advance, .ok, none⟩

/-- The table after the release of some slots: the generation advances once when there are any (R66, R68, R73). -/
def Table.drop (t : Table) (l : List SlotNo) : Table := if l = [] then t else (t.releaseAll l).advance

/-- A slot holds an APPLICATION target whose tag agrees with the match under the mask (R66). -/
def Table.classMatches (t : Table) (mask matchTag : Half) (n : SlotNo) : Bool :=
  match t.target n with
  | some target => target.origin == .application && target.tag &&& mask == matchTag &&& mask
  | none => false

/-- DELETE_CLASS (R66). -/
def Table.deleteClass (t : Table) (c : Cell) : TableOutcome :=
  let l := allSlots.filter (t.classMatches c.mask c.tag)
  ⟨t.drop l, .ok, some (BitVec.ofNat 32 l.length)⟩

/-- CLEAR (R67). -/
def Table.clear (t : Table) (c : Cell) : TableOutcome :=
  if c.p0.inWorld = false then ⟨t, .outOfRange, none⟩
  else if c.third.toInt < 4 ∨ 19 < c.third.toInt then ⟨t, .badBinSize, none⟩
  else
    let t := t.releaseAll (allSlots.filter fun n => !t.isFree n)
    ⟨{ t with originX := c.p0.x, originY := c.p0.y, k := c.third.toInt.toNat }.advance, .ok, none⟩

/-- FORGET_LEARNED (R68). -/
def Table.forgetLearned (t : Table) : TableOutcome :=
  ⟨t.drop t.learned, .ok, some (BitVec.ofNat 32 t.learned.length)⟩

/-- An op code names a table op (R85). -/
def isTableOp (op : Nat) : Bool := 1 ≤ op && op ≤ 5

/-- A table op by its code (R85, R192). -/
def Table.applyOp (t : Table) (c : Cell) : TableOutcome :=
  match c.op with
  | 1 => t.insert c
  | 2 => t.delete c
  | 3 => t.deleteClass c
  | 4 => t.clear c
  | _ => t.forgetLearned

/-! ## The learned list (R70 to R73) -/

/-- What learning hands back (R71): a learned handle or none, and LEARN_SKIPPED. -/
structure LearnOutcome where
  table : Table
  handle : Option Handle
  skipped : Bool
  deriving DecidableEq, Repr

/-- A learned slot's point equals p (R71). -/
def Table.learnedAt (t : Table) (p : Point) (n : SlotNo) : Bool :=
  match t.target n with
  | some target => target.shape == .point p
  | none => false

/-- The FREE slot and the placement a learned point would take in a table, when it has both (R57, R60). -/
def Table.room (t : Table) (p : Point) : Option (Table × SlotNo × Placement) :=
  match t.lowestFree, t.place (Shape.point p).box with
  | some n, some placement => some (t, n, placement)
  | _, _ => none

/-- Steps 2 and 3 of R72: with the entries chosen so far released, a FREE slot and a placement for the point are
sought; while there is none, the oldest entry not yet chosen, the head of the list, is chosen. None when an entry is
needed and none remains. -/
def Table.makeRoom (p : Point) : List SlotNo → Table → Option (Table × SlotNo × Placement)
  | [], t => t.room p
  | oldest :: rest, t =>
    match t.room p with
    | some room => some room
    | none => Table.makeRoom p rest (t.release oldest)

/-- A new learned point (R72): step 1 chooses the oldest entry when the list holds LEARN_CAP entries, then room is
made by steps 2 and 3, and the point is entered as the newest entry; or learning is skipped with the table
unchanged. -/
def Table.learnNew (t : Table) (cap : Nat) (tag : Half) (p : Point) : LearnOutcome :=
  let room :=
    if t.learned.length < cap then Table.makeRoom p t.learned t
    else
      match t.learned with
      | [] => none
      | oldest :: rest => Table.makeRoom p rest (t.release oldest)
  match room with
  | none => ⟨t, none, true⟩
  | some (t', n, placement) =>
    let t'' := t'.take n ⟨.point p, .learned, tag, placement⟩
    ⟨{ t'' with learned := t''.learned ++ [n] }.advance, some (t'.handleAt n), false⟩

/-- Learning of a point (R71). -/
def Table.learn (t : Table) (cap : Nat) (tag : Half) (p : Point) : LearnOutcome :=
  if cap = 0 then ⟨t, none, false⟩
  else
    match t.learned.find? (t.learnedAt p) with
    | some n => ⟨{ t with learned := removeSlot n t.learned ++ [n] }, some (t.handleAt n), false⟩
    | none => t.learnNew cap tag p

/-- The trim to a new LEARN_CAP (R73): the oldest entries are released until the list holds no more than the cap. -/
def Table.trim (t : Table) (cap : Nat) : Table := t.drop (t.learned.take (t.learned.length - cap))

end Sys2Proof.Machine
end

