-- ==== Sys2Proof/Machine/ResolverOps.lean ====
section
/-! DEFINITION. Features, candidates, the candidate choice, the capture, the constraint and the grid of a resolution
(chapter 6). Picks use the same features and the same choice (chapter 9). -/

namespace Sys2Proof.Machine

/-! ## Features of a target (R105) -/

/-- A feature of a target seen from a point: feature, index, feature point (R105). -/
structure FeaturePoint where
  feature : Feature
  index : BitVec 2
  point : Point
  deriving DecidableEq, Repr

/-- The features of a target seen from c (R105). -/
def Shape.features (shape : Shape) (c : Point) : List FeaturePoint :=
  match shape with
  | .point p => [⟨.node, 0, p⟩]
  | .segment a b =>
    [⟨.endPoint, 0, a⟩, ⟨.endPoint, 1, b⟩, ⟨.mid, 0, midpoint a b⟩, ⟨.near, 0, nearestOnSegment a b c⟩]
  | .circle ctr r =>
    [⟨.center, 0, ctr⟩, ⟨.quad, 0, quadrant ctr r 0⟩, ⟨.quad, 1, quadrant ctr r 1⟩, ⟨.quad, 2, quadrant ctr r 2⟩,
      ⟨.quad, 3, quadrant ctr r 3⟩]

/-- The priority of a feature (R105). -/
def Feature.priority : Feature → Nat
  | .node => 6
  | .endPoint => 6
  | .center => 5
  | .mid => 4
  | .quad => 3
  | .near => 2
  | .none => 0
  | .grid => 0

/-- The feature point of a feature of a target, when the feature belongs to the target's kind (R105, R111). -/
def Shape.featureAt (shape : Shape) (f : Feature) (index : BitVec 2) (c : Point) : Option Point :=
  ((shape.features c).find? fun fp => fp.feature == f && fp.index == index).map FeaturePoint.point

/-! ## Eligibility (R103) -/

/-- A class tag passes a mask and a match (R103). -/
def tagMatches (tag mask matchTag : Half) : Bool := tag &&& mask == matchTag &&& mask

/-- A tag is eligible under the four class filters: at least one enabled filter accepts it (R103). -/
def eligible (filters : Vector ClassFilter 4) (tag : Half) : Bool :=
  filters.toList.any fun f => f.enable != 0 && tagMatches tag f.mask f.matchTag

/-! ## Candidates and the choice (R107, R108) -/

/-- A candidate: a feature of the table, its feature point and its squared distance (R107). -/
structure Candidate where
  ref : FeatureRef
  point : Point
  d2 : Int
  deriving DecidableEq, Repr

/-- The candidates of one gathered slot: its eligible target's features that are on and within the radius of c
(R107, R175). -/
def slotCandidates (t : Table) (c : Point) (radius : Int) (tagOk : Half → Bool) (on : Feature → Bool) (n : SlotNo) :
    List Candidate :=
  match t.target n with
  | none => []
  | some target =>
    if tagOk target.tag then
      ((target.shape.features c).filter fun fp => on fp.feature && within fp.point c radius).map fun fp =>
        ⟨⟨t.handleAt n, fp.feature, fp.index⟩, fp.point, dist2 fp.point c⟩
    else []

/-- The candidate set about c (R107, R175): the gather with the square box of the radius, and every feature that
passes. -/
def candidates (t : Table) (c : Point) (radius : Int) (tagOk : Half → Bool) (on : Feature → Bool) :
    List Candidate :=
  (t.gather (squareBox c radius)).flatMap (slotCandidates t c radius tagOk on)

/-- The candidate order (R108): higher priority, then smaller squared distance, then lower slot, then lower index. -/
def Candidate.better (a b : Candidate) : Bool :=
  let pa := a.ref.feature.priority
  let pb := b.ref.feature.priority
  if pa ≠ pb then pb < pa
  else if a.d2 ≠ b.d2 then a.d2 < b.d2
  else if a.ref.handle.slot ≠ b.ref.handle.slot then a.ref.handle.slot < b.ref.handle.slot
  else a.ref.index < b.ref.index

/-- The candidate choice (R108). -/
def bestCandidate : List Candidate → Option Candidate
  | [] => none
  | c :: rest =>
    match bestCandidate rest with
    | none => some c
    | some b => if b.better c then some b else some c

/-! ## The capture (R110 to R112) -/

/-- The aperture world length of a resolution (R10, R121). -/
def ResolutionInputs.apw (i : ResolutionInputs) : Int := worldLength (half i.settings.aperture) i.scale

/-- The feature point of a valid capture; none when the capture is empty or invalid (R111). -/
def validCapture (i : ResolutionInputs) (t : Table) : Option (FeatureRef × Point) :=
  match i.capture with
  | none => none
  | some ref =>
    match t.named ref.handle with
    | none => none
    | some target =>
      match target.shape.featureAt ref.feature ref.index i.c with
      | none => none
      | some p =>
        if eligible i.settings.filters target.tag && featureOn i.settings.enables ref.feature
            && within p i.c (i.apw * half i.settings.release) then
          some (ref, p)
        else none

/-- The best candidate of a resolution (R107, R108). -/
def resolutionBest (i : ResolutionInputs) (t : Table) : Option Candidate :=
  bestCandidate (candidates t i.c i.apw (eligible i.settings.filters) (featureOn i.settings.enables))

/-- A result that object snap yields (R112, R119). -/
def objectResult (ref : FeatureRef) (p : Point) (captured : Bool) : Resolution :=
  ⟨p, ref.feature, some ref.handle, ref.index, captured, false⟩

/-- Object snap (R112): the captured feature, the best candidate, or none. -/
def objectSnap (i : ResolutionInputs) (t : Table) : Option Resolution :=
  match validCapture i t, resolutionBest i t with
  | some (ref, p), none => some (objectResult ref p true)
  | some (ref, p), some b =>
    if ref.feature.priority < b.ref.feature.priority then some (objectResult b.ref b.point false)
    else some (objectResult ref p (b.ref != ref))
  | none, some b => some (objectResult b.ref b.point false)
  | none, none => none

/-! ## Constraint and grid (R116 to R118) -/

/-- The constraint step (R116). -/
def constraintStep (i : ResolutionInputs) : Point × Direction :=
  match i.mode, i.anchor with
  | .noSnap, _ => (i.c, .none)
  | _, none => (i.c, .none)
  | _, some a => constrain i.settings.constraintMode a i.c

/-- The x axis is free for the grid under a direction (R117). -/
def Direction.freesX : Direction → Bool
  | .none => true
  | .horizontal => true
  | .vertical => false
  | .diagonal => false

/-- The y axis is free for the grid under a direction (R117). -/
def Direction.freesY : Direction → Bool
  | .none => true
  | .horizontal => false
  | .vertical => true
  | .diagonal => false

/-- The result when object snap yields no feature: constraint, then grid (R116 to R118). -/
def freeResult (i : ResolutionInputs) : Resolution :=
  let (p, direction) := constraintStep i
  let st := i.settings
  let on := featureOn st.enables .grid
  let gx := on && direction.freesX && st.pitchX != 0
  let gy := on && direction.freesY && st.pitchY != 0
  { s :=
      ⟨if gx then gridAxis p.x (half st.pitchX) st.gridX.toInt else p.x,
        if gy then gridAxis p.y (half st.pitchY) st.gridY.toInt else p.y⟩
    feature := if gx || gy then .grid else .none
    handle := none
    index := 0
    captured := false
    constrained := p != i.c }

/-- A resolution under its grant (R102, R120). -/
def resolve (i : ResolutionInputs) (t : Table) : Resolution :=
  match i.mode with
  | .normal => (objectSnap i t).getD (freeResult i)
  | _ => freeResult i

/-- The capture a result leaves (R113). -/
def captureOf (r : Resolution) : Option FeatureRef :=
  match r.handle with
  | some h => if r.feature.isObject then some ⟨h, r.feature, r.index⟩ else none
  | none => none

/-! ## The capture's emptying, and the start and end of a resolution (R113, R114, R120) -/

/-- The capture is emptied outside a resolution; while one is in progress the emptying waits for its end (R114). -/
def emptyCapture (s : State) : State :=
  if s.resolver.resolution = none then s.withResolver { s.resolver with capture := none }
  else s.withResolver { s.resolver with emptying := true }

/-- The start of a resolution: its inputs are fixed and the capture is read (R100, R120). -/
def startResolution (c : Point) (mode : Mode) (settings : Settings) (scale : Int) (anchor : Option Point) (s : State) :
    State :=
  s.withResolver { s.resolver with resolution := some ⟨c, mode, settings, scale, anchor, s.resolver.capture⟩ }

/-- The end of a resolution: the capture is updated from the result, a waiting emptying follows (R113, R114). -/
def endResolution (r : Resolution) (s : State) : State :=
  s.withResolver ⟨if s.resolver.emptying then none else captureOf r, false, none⟩

/-- A build's resolution is abandoned: it makes no update, and a waiting emptying is made (R114). -/
def abandonResolution (s : State) : State :=
  s.withResolver ⟨if s.resolver.emptying then none else s.resolver.capture, false, none⟩

/-- The constraint anchor of a tool context (R101). -/
def constraintAnchor (tool : Tool) (context : ToolContext) (drag : Drag) : Option Point :=
  match tool with
  | .line => if context.count = 0 then none else context.last
  | .polyline => if context.count = 0 then none else context.last
  | .move => drag.base
  | .none => none
  | .rect => none
  | .circle => none

end Sys2Proof.Machine
end

