-- ==== Sys2Proof/Machine/LinkOps.lean ====
section
/-! DEFINITION. The link receiver's operations: link health, presence, cursor, filter, buttons and frame assembly
(chapter 2). -/

namespace Sys2Proof.Machine

/-! ## Link health (R32 to R35) -/

/-- The counter and the run take new values; a change of link state raises LINK_STATE and requests a rebuild, and a
rise from below 96 to 96 or more raises LINK_WARN (R33). -/
def setHealth (errors : BitVec 8) (run : BitVec 7) (s : State) : State :=
  let old := s.link
  let s := s.withLink { old with errors := errors, run := run }
  let s := if linkStateOf errors ≠ old.state then requestRebuild (raiseApp .linkState s) else s
  if old.errors.toNat < Config.errorWarn ∧ Config.errorWarn ≤ errors.toNat then raiseApp .linkWarn s else s

/-- A frame error reaches the counter: it rises by 8, saturating at 255, and the run is 0 (R32, R34). -/
def countFrameError (s : State) : State :=
  setHealth (BitVec.ofNat 8 (min Config.errorMax (s.link.errors.toNat + Config.errorRise))) 0 s

/-- A good frame reaches the counter: it falls by 1 with a floor of 0, or in OFFLINE counts toward recovery (R32,
R34). -/
def countGoodFrame (s : State) : State :=
  if s.link.state = .offline then
    if s.link.run.toNat + 1 = Config.recoveryRun then setHealth 0 0 s
    else setHealth s.link.errors (s.link.run + 1) s
  else setHealth (BitVec.ofNat 8 (s.link.errors.toNat - 1)) 0 s

/-! ## Cursor condition and buttons (R39, R42) -/

/-- The accepted button states, all released, with no last accepted transitions (R42). -/
def buttonsReleased : Vector Button 4 := Vector.replicate 4 ⟨false, none⟩

/-- The cursor condition becomes NONE: F is invalid, and at a change of the condition the accepted button states are
cleared and a rebuild is requested (R39, R42). -/
def cursorLost (s : State) : State :=
  let changed := s.link.condition != .none
  requestRebuildIf changed
    (s.withLink
      { s.link with
        condition := .none
        fValid := false
        buttons := if changed then buttonsReleased else s.link.buttons })

/-! ## Presence (R36, R37) -/

/-- A device is PRESENT. -/
def Presence.isPresent : Presence → Bool
  | .absent => false
  | .present _ => true

/-- A change of the active device's presence raises PRESENCE_CHANGE and requests a rebuild (R37). -/
def notePresenceChange (device : Fin 8) (changed : Bool) (s : State) : State :=
  if changed ∧ device = s.active.device then requestRebuild (raiseApp .presenceChange s) else s

/-- A good frame of a device: it becomes PRESENT and its timer restarts (R36). -/
def markPresent (time : Nat) (device : Fin 8) (s : State) : State :=
  let changed := !s.link.presence[device].isPresent
  notePresenceChange device changed
    (s.withLink
      { s.link with presence := s.link.presence.set device (.present (time + s.active.presenceTime)) })

/-- Presence expiry of a device: it becomes ABSENT with its timer stopped; when it is the active device the cursor
condition becomes NONE (R36, R37, R39). -/
def expirePresence (device : Fin 8) (s : State) : State :=
  let changed := s.link.presence[device].isPresent
  let s := notePresenceChange device changed
    (s.withLink { s.link with presence := s.link.presence.set device .absent })
  if changed ∧ device = s.active.device then cursorLost s else s

/-! ## The tracking filter (R40) -/

/-- The effective hold band (R40). -/
def holdBandOf (s : State) : Int :=
  half s.active.holdBand + (if s.link.state = .degraded then Config.degradedBand else 0)

/-- One axis of the filter's move from f toward r with the hold band h (R40). -/
def filterAxis (f r : BitVec 14) (h : Int) : BitVec 14 :=
  let e : Int := (r.toNat : Int) - f.toNat
  if h < e then BitVec.ofInt 14 (r.toNat - h)
  else if e < -h then BitVec.ofInt 14 (r.toNat + h)
  else f

/-- F after an in-proximity used frame: a seed, or a move on each axis (R40). -/
def filterNext (seed : Bool) (f r : TabletPoint) (h : Int) : TabletPoint :=
  if seed then r else ⟨filterAxis f.x r.x h, filterAxis f.y r.y h⟩

/-! ## Buttons (R41, R43) -/

/-- The accepted state of one button after a frame that shows it pressed or released at `time` (R41): a transition is
accepted when the button has no last accepted transition or the debounce time has passed since it. -/
def Button.after (b : Button) (shown : Bool) (time debounce : Nat) : Button :=
  if shown = b.pressed then b
  else
    match b.last with
    | none => ⟨shown, some time⟩
    | some t => if t + debounce ≤ time then ⟨shown, some time⟩ else b

/-- The accepted states of all four buttons after a frame (R41). -/
def buttonsAfter (buttons : Vector Button 4) (shown : BitVec 4) (time debounce : Nat) : Vector Button 4 :=
  Vector.ofFn fun i => buttons[i].after (shown.getLsbD i) time debounce

/-- The buttons whose press was accepted between two sets of accepted states (R43). -/
def pressesBetween (before after : Vector Button 4) : BitVec 4 :=
  let bit := fun (i : Fin 4) => bitOf (!before[i].pressed && after[i].pressed) * 2 ^ i.val
  BitVec.ofNat 4 (bit 0 + bit 1 + bit 2 + bit 3)

/-- An entry joins the button event queue, or is dropped with BUTTON_OVERRUN when the queue is full (R43). -/
def queuePress (e : QueueEntry) (s : State) : State :=
  if s.link.queue.length < Config.buttonQueueCap then s.withLink { s.link with queue := s.link.queue ++ [e] }
  else raiseApp .buttonOverrun s

/-- The buttons of an in-proximity used frame are examined (R41), and accepted presses make one entry (R43). -/
def examineButtons (time : Nat) (fr : Frame) (s : State) : State :=
  let after := buttonsAfter s.link.buttons fr.buttons time s.active.debounceTime
  let presses := pressesBetween s.link.buttons after
  let s := s.withLink { s.link with buttons := after }
  if presses = 0 then s else queuePress ⟨presses, s.link.f, fr.r, s.link.report⟩ s

/-! ## Used frames (R38 to R40) -/

/-- A used frame with proximity 0: the condition becomes OUT and F is left as it was (R39). -/
def useFrameOut (s : State) : State :=
  requestRebuildIf (s.link.condition != .out) (s.withLink { s.link with condition := .out })

/-- A used frame with proximity 1: condition IN, filter, raw position latch, buttons, in this order (R38 to R41). -/
def useFrameIn (time : Nat) (fr : Frame) (s : State) : State :=
  let old := s.link
  let f := filterNext (old.condition != .inside) old.f fr.r (holdBandOf s)
  let s := requestRebuildIf (old.condition != .inside || f != old.f)
    (s.withLink { old with condition := .inside, f := f, fValid := true, rawLatch := fr.r })
  examineButtons time fr s

/-- A used frame takes the next report number and acts on the cursor (R38). -/
def useFrame (time : Nat) (fr : Frame) (s : State) : State :=
  let s := s.withLink { s.link with report := s.link.report + 1 }
  if fr.proximity then useFrameIn time fr s else useFrameOut s

/-- A good frame: link health first, then presence, then the cursor when the frame is used (R28, R32, R38). -/
def goodFrame (time : Nat) (fr : Frame) (s : State) : State :=
  let s := markPresent time fr.device (countGoodFrame s)
  if fr.device = s.active.device ∧ s.link.state ≠ .offline then useFrame time fr s else s

/-! ## The frame assembler (R27 to R30) -/

/-- The assembler takes a state. -/
def setAssembler (a : Assembler) (s : State) : State := s.withLink { s.link with assembler := a }

/-- The frame in assembly ends as a frame error, and the assembler is in HUNT (R28, R29). -/
def frameError (s : State) : State := countFrameError (setAssembler .hunt s)

/-- A sound marker byte is taken as byte 0; bad reserved bits end the frame at once (R27, R28). -/
def startFrame (time : Nat) (b : Byte) (s : State) : State :=
  if reserved0Ok b then setAssembler (.body [b] (time + gapTime)) s else frameError s

/-- A sound byte with bit 7 equal to 0 is taken as the next byte of the frame (case 3 of R28). -/
def takeBodyByte (time : Nat) (held : List Byte) (b : Byte) (s : State) : State :=
  match held with
  | [b0, b1, b2, b3, b4, b5] =>
    if b.toNat = frameCheck held then
      goodFrame time (frameOf b0 b1 b2 b3 b4 b5) (setAssembler .hunt s)
    else frameError s
  | _ =>
    if held.length = 1 ∧ reserved1Ok b = false then frameError s
    else setAssembler (.body (held ++ [b]) (time + gapTime)) s

/-- The arrival of a byte (R27, R28). -/
def takeByte (time : Nat) (sound : Bool) (b : Byte) (s : State) : State :=
  match s.link.assembler with
  | .hunt => if sound && isMarker b then startFrame time b s else s
  | .body held _ =>
    if sound = false then frameError s
    else if isMarker b then startFrame time b (frameError s)
    else takeBodyByte time held b s

/-- Gap expiry, when the timer runs and its time has come (R30). -/
def gapExpires (time : Nat) (s : State) : State :=
  match s.link.assembler with
  | .hunt => s
  | .body _ gapAt => if gapAt ≤ time then frameError s else s

/-- Presence expiry, when the device's timer runs and its time has come (R36). -/
def presenceExpires (time : Nat) (device : Fin 8) (s : State) : State :=
  match s.link.presence[device] with
  | .absent => s
  | .present expiresAt => if expiresAt ≤ time then expirePresence device s else s

/-- LINK_RESTART (R35). -/
def linkRestart (s : State) : State := setHealth 0 0 (setAssembler .hunt s)

/-- ENGINE_RESET at the link receiver (R45): the cursor condition becomes NONE, the accepted button states are cleared
and the button event queue is emptied; all else is kept. -/
def resetLink (s : State) : State :=
  let s := cursorLost s
  s.withLink { s.link with buttons := buttonsReleased, queue := [] }

end Sys2Proof.Machine
end

