-- ==== Sys2Proof/Machine/MenuOps.lean ====
section
/-! DEFINITION. The window decoder (chapter 3). It holds no state. -/

namespace Sys2Proof.Machine

/-- The decoder's answer (R48): a mode, and the window with its cell when a window claims the position. -/
structure Decoding where
  mode : Mode
  window : Option (MenuId × BitVec 8)
  deriving DecidableEq, Repr

/-- The mode a window's setting names; OFF is none (R46, R186). -/
def windowMode (code : Half) : Option Mode :=
  match code.toNat with
  | 0 => none
  | 1 => some .menu
  | 2 => some .noSnap
  | _ => some .gridOnly

/-- A position lies inside a window (R47). -/
def MenuWindow.contains (w : MenuWindow) (p : TabletPoint) : Bool :=
  w.x0.toNat ≤ p.x.toNat && p.x.toNat < w.x0.toNat + w.columns.toNat * w.width.toNat
    && w.y0.toNat ≤ p.y.toNat && p.y.toNat < w.y0.toNat + w.rows.toNat * w.height.toNat

/-- The cell of a position inside a window (R47). -/
def MenuWindow.cellAt (w : MenuWindow) (p : TabletPoint) : Nat :=
  (p.y.toNat - w.y0.toNat) / w.height.toNat * w.columns.toNat + (p.x.toNat - w.x0.toNat) / w.width.toNat

/-- One window's claim on a position (R48). -/
def MenuWindow.claim (w : MenuWindow) (id : MenuId) (p : TabletPoint) : Option Decoding :=
  match windowMode w.mode with
  | some mode => if w.contains p then some ⟨mode, some (id, BitVec.ofNat 8 (w.cellAt p))⟩ else none
  | none => none

/-- The decoding of no window (R48, R49). -/
def Decoding.outside : Decoding := ⟨.normal, none⟩

/-- The decoding of a position: window A first, then window B, then no window (R48). -/
def decodeWindow (st : Settings) (p : TabletPoint) : Decoding :=
  match st.windowA.claim .a p with
  | some d => d
  | none => (st.windowB.claim .b p).getD Decoding.outside

end Sys2Proof.Machine
end

