-- ==== Sys2Proof/Machine/SettingsOps.lean ====
section
/-! DEFINITION. The settings block: clamping, and the taking of an apply with the actions the blocks lay down at it
(R31, R37, R73, R124, R184 to R187). -/

namespace Sys2Proof.Machine

/-- A 16-bit value brought into lo..hi (R186). -/
def clampHalf (lo hi : Nat) (v : Half) : Half :=
  if v.toNat < lo then BitVec.ofNat 16 lo else if hi < v.toNat then BitVec.ofNat 16 hi else v

/-- The nearest of 16, 32 and 64, with 24 to 32 and 48 to 64 (R186). -/
def clampChords (v : Half) : Half := if v.toNat < 24 then 16 else if v.toNat < 48 then 32 else 64

/-- A class filter at the taking (R186). -/
def ClassFilter.clamped (f : ClassFilter) : ClassFilter := { f with enable := clampHalf 0 1 f.enable }

/-- A menu window at the taking (R46, R186). -/
def MenuWindow.clamped (w : MenuWindow) : MenuWindow where
  mode := clampHalf 0 3 w.mode
  x0 := clampHalf 0 16383 w.x0
  y0 := clampHalf 0 16383 w.y0
  width := clampHalf 8 2048 w.width
  height := clampHalf 8 2048 w.height
  columns := clampHalf 1 16 w.columns
  rows := clampHalf 1 16 w.rows

/-- A tool code that names none of the six tools is held (R124, R186). -/
def toolHeld (code : Half) : Bool := (toolOf code).isNone

/-- The staged set brought into range, with the active tool kept when the staged code is held (R186). -/
def Settings.clamped (st : Settings) (activeTool : Half) : Settings where
  originX := clampHalf 0 16383 st.originX
  originY := clampHalf 0 16383 st.originY
  gainX := clampHalf 1 65535 st.gainX
  gainY := clampHalf 1 65535 st.gainY
  holdBand := clampHalf 0 7 st.holdBand
  debounce := clampHalf 0 15 st.debounce
  activeDevice := clampHalf 0 7 st.activeDevice
  presenceTimeout := clampHalf 1 16 st.presenceTimeout
  linkRate := clampHalf 0 3 st.linkRate
  tool := if toolHeld st.tool then activeTool else st.tool
  constraint := clampHalf 0 2 st.constraint
  closeHint := clampHalf 0 1 st.closeHint
  enables := st.enables &&& 0x7F
  aperture := clampHalf 1 63 st.aperture
  release := clampHalf 1 4 st.release
  showAperture := clampHalf 0 1 st.showAperture
  crosshair := clampHalf 0 1 st.crosshair
  arm := clampHalf 4 255 st.arm
  marker := clampHalf 2 15 st.marker
  chords := clampChords st.chords
  learnCap := clampHalf 0 32 st.learnCap
  learnTag := st.learnTag
  pitchX := st.pitchX
  pitchY := st.pitchY
  gridX := signedWord (sat st.gridX.toInt)
  gridY := signedWord (sat st.gridY.toInt)
  filters := st.filters.map ClassFilter.clamped
  windowA := st.windowA.clamped
  windowB := st.windowB.clamped

/-- The tool unit at the taking: a changed tool clears anchors, drag figure and drag base (R124). -/
def applyTool (old new : Settings) (s : State) : State :=
  if new.tool = old.tool then s
  else s.withTool { s.tool with context := ToolContext.empty, drag := Drag.empty }

/-- The link receiver at the taking of a changed link rate: the assembler returns to HUNT without a frame error
(R31). -/
def applyRate (old new : Settings) (s : State) : State :=
  if new.linkRate = old.linkRate then s else setAssembler .hunt s

/-- The link receiver at the taking of a changed active device: the cursor condition becomes NONE, the accepted button
states are cleared, and PRESENCE_CHANGE is raised when the two devices' presence differs (R37, R42). -/
def applyDevice (old new : Settings) (s : State) : State :=
  if new.activeDevice = old.activeDevice then s
  else
    let s := cursorLost s
    let s := s.withLink { s.link with buttons := buttonsReleased }
    if s.link.presence[new.device].isPresent ≠ s.link.presence[old.device].isPresent then
      requestRebuild (raiseApp .presenceChange s)
    else s

/-- The taking of a pending apply, as one event (R185): the copy with clamping, the blocks' actions, the notices, the
request for a rebuild, and apply pending cleared. -/
def takeApply (s : State) : State :=
  let old := s.active
  let new := s.staged.clamped old.tool
  let s := { s with active := new }
  let s := applyTool old new s
  let s := putTable (s.table.trim new.learnCap.toNat) s
  let s := applyDevice old new (applyRate old new s)
  let s := raiseApp .settingsApplied s
  let s := if toolHeld s.staged.tool then raiseApp .settingHeld s else s
  requestRebuild { s with applyPending := false }

end Sys2Proof.Machine
end

