-- ==== Sys2Proof/Machine/BuilderOps.lean ====
section
/-! DEFINITION. The preview builder: build start and snapshot, composition of a bank, completion, rotation, view and
stream (chapter 8); and the release of a grant, at which a waiting build start is made (R149). -/

namespace Sys2Proof.Machine

/-! ## Build start (R147 to R151) -/

/-- The three conditions of a build start hold (R148). -/
def buildDue (s : State) : Bool := s.builder.rebuild && s.builder.build.isNone && s.engine == .run

/-- The lowest-numbered FREE bank (R148). -/
def freeBank (banks : Vector Bank 3) : Option (Fin 3) :=
  [0, 1, 2].find? fun (i : Fin 3) => banks[i].state == .free

/-- A bank takes a state. -/
def setBankState (banks : Vector Bank 3) (i : Fin 3) (st : BankState) : Vector Bank 3 :=
  banks.set i.val { banks[i.val] with state := st } i.isLt

/-- The snapshot of a build (R150). -/
def takeSnapshot (s : State) : Snapshot where
  settings := s.active
  view := s.builder.view
  viewGen := s.builder.viewGen
  condition := s.link.condition
  f := s.link.f
  report := s.link.report
  link := s.link.state
  context := s.tool.context
  drag := s.tool.drag
  lastDrawing := s.builder.lastDrawing

/-- The sort of a build (R49, R151). -/
def buildSort (snap : Snapshot) : BuildSort :=
  match snap.condition with
  | .inside =>
    match decodeWindow snap.settings snap.f with
    | ⟨.menu, some (window, cell)⟩ => .menu window cell
    | ⟨mode, _⟩ => .cursor (cursorPoint snap.settings snap.view snap.f) mode
  | .none => .absent
  | .out => .absent

/-- The phase a build of a sort is in after its start: a cursor build waits for its grant; a menu or absent build
composes at once, with the table generation of its start (R151, R152). -/
def firstPhase (sort : BuildSort) (generation : Half) : BuildPhase :=
  match sort with
  | .cursor _ _ => .waiting
  | .menu _ _ => .composing none generation
  | .absent => .composing none generation

/-- What follows the snapshot: a cursor build requests its grant, a menu build empties the capture (R151, R152). -/
def afterSnapshot (sort : BuildSort) (s : State) : State :=
  match sort with
  | .cursor _ _ => request .build s
  | .menu _ _ => emptyCapture s
  | .absent => s

/-- A build takes a bank (steps 2 to 6 of R148). -/
def beginBuild (bank : Fin 3) (s : State) : State :=
  let snap := takeSnapshot s
  let sort := buildSort snap
  afterSnapshot sort
    (s.withBuilder
      { s.builder with
        rebuild := false
        banks := setBankState s.builder.banks bank .building
        build := some ⟨bank, s.builder.counter + 1, snap, sort, firstPhase sort s.table.generation⟩ })

/-- A build start: a pending apply is taken first, then the lowest-numbered FREE bank (R148, R149). With no FREE bank,
which no run reaches, no build starts (log 19). -/
def makeBuildStart (s : State) : State :=
  match freeBank s.builder.banks with
  | none => s
  | some bank => beginBuild bank (if s.applyPending then takeApply s else s)

/-- BUILD_START (R148, R149): when the conditions hold the build starts; a start that takes an apply waits while a grant
is held. -/
def tryBuildStart (s : State) : State :=
  if buildDue s = false then s
  else if s.applyPending ∧ s.arbiter.holder ≠ none then s
  else makeBuildStart s

/-- The release of the grant (R76): a build start that waits with an apply is made first (R149), then the next grant
among the waiting requests. R76 lets the request of that build start be taken before or after the release; here it is
taken before it, and competes at this release (log 24, DESIGN CHOICE). -/
def releaseGrant (s : State) : State :=
  let s := freeHolder s
  arbitrate (if buildDue s && s.applyPending then makeBuildStart s else s)

/-! ## Composition (R153 to R162) -/

/-- A stroke: a MOVE to the first point and DRAWs to the rest (section 8.3). -/
def stroke (style : Style) (layer : Layer) : List Point → List Entry
  | [] => []
  | p :: rest => .move p style layer :: rest.map fun q => .draw q style layer

/-- The scale of a snapshot's view applied to a display length setting (R10). -/
def Snapshot.length (snap : Snapshot) (m : Half) : Int := worldLength (half m) snap.view.scale

/-- The crosshair's style (R157). -/
def crosshairStyle (link : LinkState) : Style := if link = .offline then .dotted else .solid

/-- The crosshair about the cursor point (R157). -/
def crosshair (snap : Snapshot) (c : Point) : List Entry :=
  let style := crosshairStyle snap.link
  let v := snap.view
  let aw := snap.length snap.settings.arm
  if snap.settings.crosshair = 0 then
    stroke style .cursor [⟨v.ox, c.y⟩, ⟨spanEnd v.ox v.width v.scale, c.y⟩]
      ++ stroke style .cursor [⟨c.x, v.oy⟩, ⟨c.x, spanEnd v.oy v.height v.scale⟩]
  else
    stroke style .cursor [satPoint (c.x - aw) c.y, satPoint (c.x + aw) c.y]
      ++ stroke style .cursor [satPoint c.x (c.y - aw), satPoint c.x (c.y + aw)]

/-- The aperture box, in NORMAL mode with SHOW_APERTURE on (R158). -/
def apertureBox (snap : Snapshot) (c : Point) (mode : Mode) : List Entry :=
  if mode = .normal ∧ snap.settings.showAperture ≠ 0 then
    let corners := squareCorners c (snap.length snap.settings.aperture)
    stroke .solid .aperture (corners ++ corners.take 1)
  else []

/-- A marker glyph of world size m at s, as its strokes' points (R159). -/
def glyph (f : Feature) (s : Point) (m : Int) : List (List Point) :=
  let h := (m + 1) / 2
  let at_ := fun dx dy => satPoint (s.x + dx) (s.y + dy)
  match f with
  | .none => []
  | .node => [[at_ (-m) (-m), at_ m (-m), at_ m m, at_ (-m) m, at_ (-m) (-m)]]
  | .endPoint => [[at_ (-m) (-m), at_ m (-m), at_ m m, at_ (-m) m, at_ (-m) (-m)]]
  | .mid => [[at_ (-m) (-m), at_ m (-m), at_ 0 m, at_ (-m) (-m)]]
  | .center =>
    [[at_ m (-h), at_ m h, at_ h m, at_ (-h) m, at_ (-m) h, at_ (-m) (-h), at_ (-h) (-m), at_ h (-m), at_ m (-h)]]
  | .quad => [[at_ m 0, at_ 0 m, at_ (-m) 0, at_ 0 (-m), at_ m 0]]
  | .near => [[at_ (-m) m, at_ m m, at_ (-m) (-m), at_ m (-m), at_ (-m) m]]
  | .grid => [[at_ (-m) 0, at_ m 0], [at_ 0 (-m), at_ 0 m]]

/-- The marker at the snapped point (R159). -/
def marker (snap : Snapshot) (r : Resolution) : List Entry :=
  (glyph r.feature r.s (snap.length snap.settings.marker)).flatMap (stroke .bright .marker)

/-- The rubber band of LINE and POLYLINE to the end point (R160). -/
def lineBand (snap : Snapshot) (e : Point) : List Entry :=
  match snap.context.last with
  | some last => if snap.context.count = 0 then [] else stroke .solid .rubber [last, e]
  | none => []

/-- The closing hint of POLYLINE (R160). -/
def closeHint (snap : Snapshot) (e : Point) : List Entry :=
  match snap.context.first with
  | some first =>
    if 2 ≤ snap.context.count.toNat ∧ snap.settings.closeHint ≠ 0 then stroke .dashed .rubber [e, first] else []
  | none => []

/-- The rubber band of RECT (R160). -/
def rectBand (snap : Snapshot) (e : Point) : List Entry :=
  match snap.context.first with
  | some a =>
    if snap.context.count = 1 then stroke .solid .rubber [a, ⟨e.x, a.y⟩, e, ⟨a.x, e.y⟩, a] else []
  | none => []

/-- The polygon of a circle: vertices 0 to n - 1 and vertex 0 again (R22). -/
def circlePoints (c : Point) (r : Int) (n : Nat) : List Point :=
  (List.range n).map (chordVertex c r n) ++ [chordVertex c r n 0]

/-- The rubber band of CIRCLE: radius line and circle (R161). -/
def circleBand (snap : Snapshot) (e : Point) : List Entry :=
  match snap.context.first with
  | some c =>
    if snap.context.count = 1 then
      stroke .dotted .rubber [c, e]
        ++ stroke .solid .rubber (circlePoints c (circleRadius c e) snap.settings.chords.toNat)
    else []
  | none => []

/-- The drag figure of MOVE: base line and translated segments (R162). -/
def dragBand (snap : Snapshot) (e : Point) : List Entry :=
  match snap.drag.base with
  | some base =>
    stroke .dotted .rubber [base, e]
      ++ snap.drag.figure.flatMap fun g => stroke .dashed .drag [translated e g.o0, translated e g.o1]
  | none => []

/-- The rubber band by tool (R160 to R162). -/
def rubberBand (snap : Snapshot) (e : Point) : List Entry :=
  match snap.settings.toolInForce with
  | .none => []
  | .line => lineBand snap e
  | .polyline => lineBand snap e ++ closeHint snap e
  | .rect => rectBand snap e
  | .circle => circleBand snap e
  | .move => dragBand snap e

/-- The end point E: S in a cursor build, otherwise the last drawing point of the snapshot (R153). -/
def endPointOf (b : Build) (result : Option Resolution) : Option Point :=
  match result with
  | some r => some r.s
  | none => b.snapshot.lastDrawing

/-- The HEADER of a build (R155). -/
def headerOf (b : Build) (result : Option Resolution) (tableGen : Half) : Header where
  build := b.number
  report := b.snapshot.report
  viewGen := b.snapshot.viewGen
  tableGen := tableGen
  absent := b.sort == .absent
  link := b.snapshot.link
  menu := match b.sort with
    | .menu window cell => some (window, cell)
    | .cursor _ _ => none
    | .absent => none
  captured := (result.map Resolution.captured).getD false
  constrained := (result.map Resolution.constrained).getD false

/-- The CURSOR_INFO entry (R156). -/
def cursorInfoOf (result : Option Resolution) : Entry :=
  match result with
  | some r => .cursorInfo r.s r.feature
  | none => .cursorInfo ⟨0, 0⟩ .none

/-- Crosshair, aperture box and marker, of a cursor build alone (R157 to R159). -/
def cursorEntries (b : Build) (result : Option Resolution) : List Entry :=
  match b.sort, result with
  | .cursor c mode, some r => crosshair b.snapshot c ++ apertureBox b.snapshot c mode ++ marker b.snapshot r
  | _, _ => []

/-- The rubber band to the end point, when there is one (R153). -/
def bandEntries (b : Build) (result : Option Resolution) : List Entry :=
  match endPointOf b result with
  | some e => rubberBand b.snapshot e
  | none => []

/-- The entries a build writes, in order (R154). -/
def compose (b : Build) (result : Option Resolution) (tableGen : Half) : List Entry :=
  [.header (headerOf b result tableGen), cursorInfoOf result] ++ cursorEntries b result ++ bandEntries b result
    ++ [.endMark]

/-! ## Completion (R163, R164) -/

/-- The entries of a bank after a build wrote into it: entries beyond END keep what an earlier build left (R154). -/
def overwrite (old new : List Entry) : List Entry := new ++ old.drop new.length

/-- The banks at a build completion: any READY bank becomes FREE, the BUILDING bank READY (R163). -/
def banksCompleted (banks : Vector Bank 3) (bank : Fin 3) (entries : List Entry) : Vector Bank 3 :=
  let freed := banks.map fun b => if b.state = .ready then { b with state := .free } else b
  freed.set bank.val ⟨.ready, overwrite freed[bank.val].entries entries⟩ bank.isLt

/-- The last drawing point after a build's completion: S of a cursor build (R153). -/
def lastDrawingAfter (b : Build) (result : Option Resolution) (old : Option Point) : Option Point :=
  match b.sort, result with
  | .cursor _ _, some r => some r.s
  | _, _ => old

/-- BUILD_COMPLETION (R163), for a build that composes. -/
def completeBuild (s : State) : State :=
  match s.builder.build with
  | some ⟨bank, number, snap, sort, .composing result tableGen⟩ =>
    let b : Build := ⟨bank, number, snap, sort, .composing result tableGen⟩
    raiseDisp .frameReady
      (s.withBuilder
        { s.builder with
          banks := banksCompleted s.builder.banks bank (compose b result tableGen)
          build := none
          counter := number
          lastDrawing := lastDrawingAfter b result s.builder.lastDrawing })
  | _ => s

/-! ## View, frame start and stream (R165 to R167) -/

/-- A staged field is written as given, and the staged-written flag is set (R165). -/
def writeStagedView (field : ViewField) (value : Word) (s : State) : State :=
  let v := s.builder.staged
  let v := match field with
    | .ox => { v with ox := value }
    | .oy => { v with oy := value }
    | .scale => { v with scale := value }
    | .width => { v with width := value }
    | .height => { v with height := value }
  s.withBuilder { s.builder with staged := v, stagedWritten := true }

/-- The staged view as written, each field a signed 32-bit value (R165). -/
def StagedView.signed (v : StagedView) : View := ⟨v.ox.toInt, v.oy.toInt, v.scale.toInt, v.width.toInt, v.height.toInt⟩

/-- The staged view with its fields clamped (R166). -/
def StagedView.clamped (v : StagedView) : View where
  ox := sat v.ox.toInt
  oy := sat v.oy.toInt
  scale := clampInt 1 Config.scaleMax v.scale.toInt
  width := clampInt 1 Config.displayMax v.width.toInt
  height := clampInt 1 Config.displayMax v.height.toInt

/-- Step 1 of a frame start: a written staged view is committed (R166). -/
def commitView (s : State) : State :=
  if s.builder.stagedWritten = false then s
  else
    let view := s.builder.staged.clamped
    let s' := requestRebuild
      (s.withBuilder { s.builder with view := view, viewGen := s.builder.viewGen + 1, stagedWritten := false })
    if view ≠ s.builder.staged.signed then raiseDisp .viewClamped s' else s'

/-- A READY bank exists (R166). -/
def hasReady (banks : Vector Bank 3) : Bool := banks.toList.any fun b => b.state == .ready

/-- Step 2 of a frame start: the READY bank becomes SHOWN and the SHOWN bank FREE, when there is a READY bank (R166). -/
def rotated (banks : Vector Bank 3) : Vector Bank 3 :=
  if hasReady banks then
    banks.map fun b =>
      match b.state with
      | .ready => { b with state := .shown }
      | .shown => { b with state := .free }
      | .free => b
      | .building => b
  else banks

/-- A frame start (R166). -/
def frameStart (s : State) : State :=
  let s := commitView s
  s.withBuilder { s.builder with banks := rotated s.builder.banks, streamPtr := 0 }

/-- The SHOWN bank's entries up to and with END (R167). -/
def upToEnd : List Entry → List Entry
  | [] => []
  | .endMark :: _ => [.endMark]
  | e :: rest => e :: upToEnd rest

/-- The entries of the SHOWN bank that the stream returns (R167). -/
def shownEntries (b : Builder) : List Entry :=
  match b.banks.toList.find? fun bank => bank.state == .shown with
  | some bank => upToEnd bank.entries
  | none => []

/-- The words of the SHOWN bank in stream order (R167). -/
def shownWords (b : Builder) : List Word := (shownEntries b).flatMap Entry.words

/-- The word a read of STREAM returns (R167). -/
def streamWord (s : State) : Word := (shownWords s.builder).getD s.builder.streamPtr endWord

/-- A read of STREAM advances the pointer until it has passed the last word of END (R167). -/
def advanceStream (s : State) : State :=
  if s.builder.streamPtr < (shownWords s.builder).length then
    s.withBuilder { s.builder with streamPtr := s.builder.streamPtr + 1 }
  else s

/-- The rewind of the stream read pointer (R167). -/
def rewindStream (s : State) : State := s.withBuilder { s.builder with streamPtr := 0 }

/-- The build number of the SHOWN bank, from its HEADER (R164). -/
def shownBuild (b : Builder) : Half :=
  match shownEntries b with
  | .header h :: _ => h.build
  | _ => 0

/-! ## Engine reset (R169) -/

/-- ENGINE_RESET at the builder (R169): the build in flight is abandoned, BUILDING and READY banks become FREE, the
rebuild pending flag is set, the last drawing point becomes none. -/
def resetBuilder (s : State) : State :=
  let s := match s.builder.build with
    | some ⟨_, _, _, _, .waiting⟩ => withdraw .build s
    | some ⟨_, _, _, _, .resolving⟩ => abandonResolution (withdraw .build s)
    | _ => s
  s.withBuilder
    { s.builder with
      rebuild := true
      banks := s.builder.banks.map fun b =>
        match b.state with
        | .building => { b with state := .free }
        | .ready => { b with state := .free }
        | .free => b
        | .shown => b
      build := none
      lastDrawing := none }

end Sys2Proof.Machine
end

