-- ==== Sys2Proof/Machine/UpdateOps.lean ====
section
/-! DEFINITION. The update engine: submission, the walk of a list, write-back, endings, teardown, acknowledgement, and the
cell boundary of a reset (chapter 5). -/

namespace Sys2Proof.Machine

/-! ## Endings and beginnings of lists (R83, R90) -/

/-- The done count after one more ending, saturating at 255 (R90). -/
def doneAfter (done : BitVec 8) : BitVec 8 := if done = 255 then 255 else done + 1

/-- The effects of an ending on record, done count and notice (steps 1 to 3 of R90). -/
def recordEnding (r : LastList) (s : State) : State :=
  let s := s.withUpdate { s.update with record := r, done := doneAfter s.update.done }
  if r.status = .busError then raiseApp .busError s else s

/-- The list in flight leaves the queue, and none is in flight (step 4 of R90). -/
def dropInFlight (s : State) : State := s.withUpdate { s.update with inFlight := none }

/-- A list becomes in flight and its head is tested; no list waits behind it yet (R83). -/
def beginList (l : Submitted) (s : State) : State :=
  if l.head = 0 then dropInFlight (recordEnding ⟨l, .complete, 0, 0⟩ s)
  else if aligned l.head = false then dropInFlight (recordEnding ⟨l, .badLink, 0, 0⟩ s)
  else s.withUpdate { s.update with inFlight := some ⟨l, 0, l.head, .fetching⟩ }

/-- What follows the ending of the list in flight: the waiting list ends DISCARDED after a teardown, and otherwise
becomes in flight (R82, R94, R95). -/
def afterEnding (teardown : Bool) (waiting : Option Submitted) (s : State) : State :=
  match waiting with
  | none => s
  | some l => if teardown then recordEnding ⟨l, .discarded, 0, 0⟩ s else beginList l s

/-- The list in flight ends with a status, as one event (R90). -/
def endList (f : InFlight) (status : ListStatus) (s : State) : State :=
  let teardown := s.update.teardown
  let waiting := s.update.waiting
  let s := recordEnding ⟨f.list, status, f.applied, f.cell⟩ s
  afterEnding teardown waiting (s.withUpdate { s.update with inFlight := none, waiting := none, teardown := false })

/-! ## Submission, acknowledgement, teardown (R81, R91, R93) -/

/-- SUBMIT_LO (R81). -/
def writeSubmitLo (value : Half) (s : State) : State := s.withUpdate { s.update with submitLo := value }

/-- A submission is refused with two lists outstanding or while RESETTING (R81). -/
def submitRefused (s : State) : Bool :=
  (s.update.inFlight.isSome && s.update.waiting.isSome) || s.engine == .resetting

/-- The submission by a write of the high half (R81). -/
def submit (high : Half) (s : State) : State :=
  if submitRefused s then raiseApp .submitRefused s
  else
    let l : Submitted := ⟨high ++ s.update.submitLo, s.update.lastSerial + 1⟩
    let s := s.withUpdate { s.update with lastSerial := l.serial }
    if s.update.inFlight.isSome then s.withUpdate { s.update with waiting := some l } else beginList l s

/-- UPDATE_ACK (R91). -/
def updateAck (s : State) : State :=
  s.withUpdate { s.update with done := if s.update.done = 0 then 0 else s.update.done - 1 }

/-- UPDATE_TEARDOWN (R93). -/
def updateTeardown (s : State) : State :=
  if s.update.inFlight.isSome then s.withUpdate { s.update with teardown := true } else s

/-! ## The cell boundary of a reset (R96) -/

/-- The boundary: both lists are dropped without endings, teardown pending, done count and record are cleared, and the
engine returns to RUN when nothing else is outstanding (R96, R183). -/
def cellBoundary (s : State) : State :=
  settleReset
    (s.withUpdate
      { s.update with inFlight := none, waiting := none, teardown := false, done := 0, record := LastList.cleared })

/-- A bus error at the write that reaches the boundary raises BUS_ERROR (R96). -/
def boundaryAfterWrite (busError : Bool) (s : State) : State :=
  cellBoundary (if busError then raiseApp .busError s else s)

/-- The stage of a list at an ENGINE_RESET lets the boundary be reached at the command (R96): no list, WAITING, or a
grant taken before the withdrawal, whose op has not begun (R77). -/
def boundaryAtOnce : Option InFlight → Bool
  | none => true
  | some ⟨_, _, _, .waiting _⟩ => true
  | some ⟨_, _, _, .granted _⟩ => true
  | some _ => false

/-- ENGINE_RESET at the update engine (R96): a waiting request is withdrawn, and a grant whose op has not begun is
released without any operation (R77); the boundary is reached at once then and with no list in flight, and otherwise
at the completion the stage awaits. -/
def resetUpdate (s : State) : State :=
  if boundaryAtOnce s.update.inFlight then
    let s := withdraw .update s
    s.withUpdate
      { s.update with inFlight := none, waiting := none, teardown := false, done := 0, record := LastList.cleared }
  else s

/-! ## Drag cells (R86, R87) -/

/-- A drag cell's outcome: the drag base and figure after it, and the result (R86). -/
def dragOutcome (d : Drag) (c : Cell) : Drag × CellResult :=
  if c.op = 6 then
    if c.p0.inWorld then (⟨some c.p0, []⟩, .ok) else (d, .outOfRange)
  else if (c.p0.inWorld && c.p1.inWorld) = false then (d, .outOfRange)
  else
    match d.base with
    | none => (d, .noBase)
    | some base =>
      if Config.dragCap ≤ d.figure.length then (d, .dragFull)
      else (⟨some base, d.figure ++ [dragOffsets base c.p0 c.p1]⟩, .ok)

/-- The write-back of a cell starts (R88). -/
def startWriteBack (f : InFlight) (c : Cell) (result : CellResult) (handleWord : Option Word) (s : State) : State :=
  s.withUpdate { s.update with inFlight := some { f with stage := .writingBack c handleWord (writeBackControl c result) } }

/-- A drag cell's change is made at the tool unit and its write-back starts; a result OK requests a rebuild (R86, R87). -/
def applyDrag (f : InFlight) (c : Cell) (s : State) : State :=
  let (d, result) := dragOutcome s.tool.drag c
  startWriteBack f c result none
    (requestRebuildIf (result == .ok) (s.withTool { s.tool with drag := d }))

/-- A drag cell that waited for the commit in progress has its change made at that commit's end (R87). -/
def applyWaitingDrag (s : State) : State :=
  match s.update.inFlight with
  | some ⟨list, applied, cell, .waiting c⟩ => if isTableOp c.op then s else applyDrag ⟨list, applied, cell, .waiting c⟩ c s
  | _ => s

/-! ## Fetch completion and dispatch (R84, R85) -/

/-- A list's stage becomes WAITING (R85, R87). -/
def waitWith (f : InFlight) (c : Cell) (s : State) : State :=
  s.withUpdate { s.update with inFlight := some { f with stage := .waiting c } }

/-- The dispatch of a fetched cell with EO set, already counted as applied (R85). -/
def dispatch (f : InFlight) (c : Cell) (s : State) : State :=
  if isTableOp c.op then request .update (waitWith f c s)
  else if c.op = 0 then startWriteBack f c .ok none s
  else if 8 ≤ c.op then startWriteBack f c .badOp none s
  else if commitInProgress s then waitWith f c s
  else applyDrag f c s

/-- The fetch of the current cell completes (R84, R96). -/
def fetchDone (f : InFlight) (reply : FetchReply) (s : State) : State :=
  if s.engine = .resetting then cellBoundary s
  else
    match reply with
    | .busError => endList f .busError s
    | .cell c =>
      if c.eo then dispatch { f with applied := f.applied + 1 } c s else endList f .stoppedUnowned s

/-- FETCH_COMPLETION in FETCHING; in any other stage no fetch is outstanding (R84; log 3). -/
def fetchCompletes (reply : FetchReply) (s : State) : State :=
  match s.update.inFlight with
  | some ⟨list, applied, cell, .fetching⟩ => fetchDone ⟨list, applied, cell, .fetching⟩ reply s
  | _ => s

/-! ## Cell application (R85) -/

/-- The op of the cell under the UPDATE grant begins (R85; log 4). -/
def beginGrantedCell (s : State) : State :=
  match s.update.inFlight with
  | some ⟨list, applied, cell, .granted c⟩ =>
    s.withUpdate { s.update with inFlight := some ⟨list, applied, cell, .applying c⟩ }
  | _ => s

/-- The table op under the UPDATE grant completes: table and generation, write-back started, grant released (R85). -/
def cellApplied (f : InFlight) (c : Cell) (s : State) : State :=
  let o := s.table.applyOp c
  releaseGrant (startWriteBack f c o.result o.handleWord (putTable o.table s))

/-- CELL_APPLICATION in APPLYING under the UPDATE grant, the op begun (R85; logs 3, 4). -/
def cellApplies (s : State) : State :=
  match s.update.inFlight, s.arbiter.holder with
  | some ⟨list, applied, cell, .applying c⟩, some .update => cellApplied ⟨list, applied, cell, .applying c⟩ c s
  | _, _ => s

/-! ## Write-back completion, links and marking (R88, R89, R94) -/

/-- The words a write-back puts into memory, in order: the handle word when the op writes it, then the control word; it
stops at a write answered with a bus error (R88). -/
def writeBackWrites (cell : Word) (handle : Option Word) (control : Word) (handleError controlError : Bool) :
    List (Word × Word) :=
  let tail := if controlError then [] else [(cellWord cell 1, control)]
  match handle with
  | none => tail
  | some h => if handleError then [] else (cellWord cell 7, h) :: tail

/-- The write-back was answered with a bus error (R88). -/
def writeBackFailed (handle : Option Word) (handleError controlError : Bool) : Bool :=
  (handle.isSome && handleError) || controlError

/-- The link of a completed cell is followed (R89). -/
def followLink (f : InFlight) (c : Cell) (s : State) : State :=
  if c.link = 0 then endList f .complete s
  else if aligned c.link = false then endList f .badLink s
  else s.withUpdate { s.update with inFlight := some { f with cell := c.link, stage := .fetching } }

/-- A cell completion with teardown pending (R94). The marked cell becomes the current cell (log 9). -/
def tearDown (f : InFlight) (c : Cell) (s : State) : State :=
  if c.link = 0 then endList f .tornDown s
  else if aligned c.link = false then endList f .badLink s
  else s.withUpdate { s.update with inFlight := some { f with cell := c.link, stage := .marking } }

/-- The memory master's completed writes are shown (log 7). -/
def showWrites (l : List (Word × Word)) (s : State) : State := { s with masterWrites := l }

/-- The write-back of a cell completes (R88, R96). -/
def writeBackDone (f : InFlight) (c : Cell) (failed : Bool) (s : State) : State :=
  if s.engine = .resetting then boundaryAfterWrite failed s
  else if failed then endList f .busError s
  else if s.update.teardown then tearDown f c s
  else followLink f c s

/-- WRITE_BACK_COMPLETION in WRITING_BACK (R88; log 3). -/
def writeBackCompletes (handleError controlError : Bool) (s : State) : State :=
  match s.update.inFlight with
  | some ⟨list, applied, cell, .writingBack c handle control⟩ =>
    writeBackDone ⟨list, applied, cell, .writingBack c handle control⟩ c
      (writeBackFailed handle handleError controlError)
      (showWrites (writeBackWrites cell handle control handleError controlError) s)
  | _ => s

/-- The marking write completes (R94, R96). -/
def markingDone (f : InFlight) (busError : Bool) (s : State) : State :=
  if s.engine = .resetting then boundaryAfterWrite busError s
  else endList f (if busError then .busError else .tornDown) s

/-- The words a marking puts into memory (R94). -/
def markingWrites (cell : Word) (busError : Bool) : List (Word × Word) :=
  if busError then [] else [(cellWord cell 1, markingControl)]

/-- MARKING_COMPLETION in MARKING (R94; log 3). -/
def markingCompletes (busError : Bool) (s : State) : State :=
  match s.update.inFlight with
  | some ⟨list, applied, cell, .marking⟩ =>
    markingDone ⟨list, applied, cell, .marking⟩ busError (showWrites (markingWrites cell busError) s)
  | _ => s

end Sys2Proof.Machine
end

