-- ==== Sys2Proof/Machine/CommitOps.lean ====
section
/-! DEFINITION. The tool unit: taking presses, refusals, what each press does, learning, the commit log (chapter 7). -/

namespace Sys2Proof.Machine

/-! ## Buttons of an entry (R126) -/

/-- The lowest-numbered button of a set, if any: PLACE, FINISH, CANCEL, AUX (section 7.2, R126). -/
def lowestButton (buttons : BitVec 4) : Option ButtonName :=
  if buttons.getLsbD 0 then some .place
  else if buttons.getLsbD 1 then some .finish
  else if buttons.getLsbD 2 then some .cancel
  else if buttons.getLsbD 3 then some .aux
  else none

/-- The bit of a button (section 7.2). -/
def ButtonName.bit : ButtonName → BitVec 4
  | .place => 1
  | .finish => 2
  | .cancel => 4
  | .aux => 8

/-- The queue after a button of its oldest entry was handled: the entry is removed after its last button (R126). -/
def queueAfter (button : ButtonName) : List QueueEntry → List QueueEntry
  | [] => []
  | e :: rest =>
    let left := e.buttons &&& ~~~button.bit
    if left = 0 then rest else { e with buttons := left } :: rest

/-- COMMIT_START (R126): with an entry waiting, no commit waiting or in progress and the engine in RUN, the next button
is taken and a COMMIT grant is requested. -/
def tryCommitStart (s : State) : State :=
  match s.engine, s.tool.commit, s.link.queue with
  | .run, none, e :: _ =>
    match lowestButton e.buttons with
    | some button => request .commit (s.withTool { s.tool with commit := some ⟨e, button, true, false⟩ })
    | none => s
  | _, _, _ => s

/-! ## What each press does to the context (R131 to R136) -/

/-- What a press does: context and drag figure after it, whether its record carries COMPLETES, whether it requests
learning. -/
structure PressEffect where
  context : ToolContext
  drag : Drag
  completes : Bool
  learns : Bool
  deriving DecidableEq, Repr

/-- The first anchor is placed at s (R132, R133). -/
def openFigure (s : Point) : ToolContext := ⟨1, some s, some s⟩

/-- A PLACE in LINE, RECT or CIRCLE (R132, R138); `learnsLast` says whether the completing PLACE requests learning. -/
def placeTwoPoint (ctx : ToolContext) (drag : Drag) (s : Point) (learnsLast : Bool) : PressEffect :=
  if ctx.count = 0 then ⟨openFigure s, drag, false, true⟩ else ⟨ToolContext.empty, drag, true, learnsLast⟩

/-- A PLACE in POLYLINE (R133, R138). -/
def placePolyline (ctx : ToolContext) (drag : Drag) (s : Point) : PressEffect :=
  if ctx.count = 0 then ⟨openFigure s, drag, false, true⟩
  else ⟨⟨if ctx.count = 255 then 255 else ctx.count + 1, ctx.first, some s⟩, drag, false, true⟩

/-- A PLACE by tool (R131 to R133, R138). -/
def placeEffect (tool : Tool) (ctx : ToolContext) (drag : Drag) (s : Point) : PressEffect :=
  match tool with
  | .none => ⟨ctx, drag, false, false⟩
  | .line => placeTwoPoint ctx drag s true
  | .rect => placeTwoPoint ctx drag s true
  | .circle => placeTwoPoint ctx drag s false
  | .polyline => placePolyline ctx drag s
  | .move => ⟨ctx, drag, drag.base.isSome, false⟩

/-- The drag base and figure after a FINISH or a CANCEL: cleared in MOVE (R134, R135). -/
def dragEnded (tool : Tool) (drag : Drag) : Drag := if tool = .move then Drag.empty else drag

/-- A FINISH (R134). -/
def finishEffect (tool : Tool) (ctx : ToolContext) (drag : Drag) : PressEffect :=
  ⟨ToolContext.empty, dragEnded tool drag, tool == .polyline && 2 ≤ ctx.count.toNat, false⟩

/-- A CANCEL (R135). -/
def cancelEffect (tool : Tool) (drag : Drag) : PressEffect :=
  ⟨ToolContext.empty, dragEnded tool drag, false, false⟩

/-! ## Records and the log (R140 to R144) -/

/-- A record takes the next sequence number and joins the log at its newest end (R141, R142). -/
def appendRecord (r : CommitRecord) (s : State) : State :=
  let seq := s.tool.sequence + 1
  s.withTool { s.tool with log := s.tool.log ++ [{ r with seq := seq }], sequence := seq }

/-- The oldest record is removed; with the log empty nothing changes (R144). -/
def commitPop (s : State) : State := s.withTool { s.tool with log := s.tool.log.drop 1 }

/-- The fields of a record that the entry and the tool unit give it; S, feature and handles as they are absent
(R140). `seq` is given at the append. -/
def baseRecord (kind : RecordKind) (e : QueueEntry) (tool : Tool) (count : BitVec 8) : CommitRecord where
  seq := 0
  kind := kind
  tool := tool
  count := count
  s := none
  feature := .none
  index := 0
  target := none
  learned := none
  r := e.r
  report := e.report
  menu := none
  completes := false
  learnSkipped := false

/-! ## The end of a commit -/

/-- ENGINE_RESET's event at the tool unit (R145): anchors, drag figure, drag base and log are cleared, and the rebuild
pending flag is set. -/
def toolResetEvent (s : State) : State :=
  requestRebuild
    (s.withTool { s.tool with context := ToolContext.empty, drag := Drag.empty, log := [] })

/-- The press has been handled: its button leaves the entry at the oldest end of the queue, unless ENGINE_RESET has
emptied the queue since (R126, R145). -/
def handlePress (c : CommitInHand) (s : State) : State :=
  if c.queued then s.withLink { s.link with queue := queueAfter c.button s.link.queue } else s

/-- The end of the commit in hand, by a record or by a refusal (R87, R126, R127, R145): the press is handled, a waiting
drag cell makes its change, a reset that waited for the commit makes its event, and the grant is released (log 11). -/
def endCommit (c : CommitInHand) (s : State) : State :=
  let s := handlePress c (s.withTool { s.tool with commit := none })
  let s := applyWaitingDrag s
  let s := if s.engine = .resetting then toolResetEvent s else s
  releaseGrant (settleReset s)

/-! ## The course of a commit (R127 to R130) -/

/-- A FINISH or a CANCEL that passed the refusal tests (R134, R135). -/
def commitWithoutPoint (c : CommitInHand) (kind : RecordKind) (e : PressEffect) (s : State) : State :=
  let s := putContext e.context e.drag s
  let record := baseRecord kind c.entry s.active.toolInForce e.context.count
  endCommit c (appendRecord { record with completes := e.completes } s)

/-- A PLACE or an AUX over a menu cell (R51, R137). -/
def commitMenuPick (c : CommitInHand) (window : MenuId) (cell : BitVec 8) (s : State) : State :=
  let s := emptyCapture s
  let record := baseRecord .menuPick c.entry s.active.toolInForce s.tool.context.count
  endCommit c (appendRecord { record with menu := some ⟨window, cell, c.button == .aux⟩ } s)

/-- A PLACE or an AUX outside the menu windows starts its resolution (R100, R130). -/
def commitResolution (c : CommitInHand) (mode : Mode) (s : State) : State :=
  let st := s.active
  let view := s.builder.view
  startResolution (cursorPoint st view c.entry.f) mode st view.scale
    (constraintAnchor st.toolInForce s.tool.context s.tool.drag)
    (s.withTool { s.tool with commit := some { c with resolving := true } })

/-- A PLACE or an AUX that passed the refusal tests (R130). -/
def commitPoint (c : CommitInHand) (s : State) : State :=
  match decodeWindow s.active c.entry.f with
  | ⟨.menu, some (window, cell)⟩ => commitMenuPick c window cell s
  | ⟨mode, _⟩ => commitResolution c mode s

/-- A commit that passed the refusal tests (steps 3 to 6 of R127). -/
def commitAccepted (c : CommitInHand) (s : State) : State :=
  match c.button with
  | .finish =>
    commitWithoutPoint c .finish (finishEffect s.active.toolInForce s.tool.context s.tool.drag) s
  | .cancel => commitWithoutPoint c .cancel (cancelEffect s.active.toolInForce s.tool.drag) s
  | .place => commitPoint c s
  | .aux => commitPoint c s

/-- The refusal tests in their order (R128, R129): the notice of the test the commit fails, if any. -/
def commitRefusal (button : ButtonName) (s : State) : Option AppNotice :=
  if Config.commitLogCap ≤ s.tool.log.length then some .logFull
  else if s.link.state ≠ .tracking ∧ button ≠ .cancel then some .commitRefused
  else none

/-- A commit's operation under its grant (R127): a pending apply, the refusal tests, then the press. -/
def beginCommit (c : CommitInHand) (s : State) : State :=
  let s := if s.applyPending then takeApply s else s
  match commitRefusal c.button s with
  | some notice => endCommit c (raiseApp notice s)
  | none => commitAccepted c s

/-! ## The end of a PLACE or an AUX with its resolution (R131 to R133, R136, R138) -/

/-- An AUX with its resolution's result (R136). -/
def finishAux (c : CommitInHand) (r : Resolution) (s : State) : State :=
  let record := baseRecord .aux c.entry s.active.toolInForce s.tool.context.count
  endCommit c
    (appendRecord { record with s := some r.s, feature := r.feature, index := r.index, target := r.handle } s)

/-- The learning a PLACE requests, or none (R71, R138). -/
def learnFor (learns : Bool) (p : Point) (s : State) : LearnOutcome :=
  if learns then s.table.learn s.active.learnCap.toNat s.active.learnTag p else ⟨s.table, none, false⟩

/-- A PLACE with its resolution's result (steps 4 to 6 of R127). -/
def finishPlace (c : CommitInHand) (r : Resolution) (s : State) : State :=
  let tool := s.active.toolInForce
  let e := placeEffect tool s.tool.context s.tool.drag r.s
  let s := putContext e.context e.drag s
  let learned := learnFor e.learns r.s s
  let s := putTable learned.table s
  let record := baseRecord .place c.entry tool e.context.count
  endCommit c
    (appendRecord
      { record with
        s := some r.s
        feature := r.feature
        index := r.index
        target := r.handle
        learned := learned.handle
        completes := e.completes
        learnSkipped := learned.skipped }
      s)

/-- A commit's resolution has ended (R120, R130). -/
def finishCommit (c : CommitInHand) (r : Resolution) (s : State) : State :=
  match c.button with
  | .place => finishPlace c r s
  | .aux => finishAux c r s
  | .finish => s
  | .cancel => s

/-! ## TABLE_GRANT and RESOLUTION_END -/

/-- A cursor build's resolution starts at its grant, with the inputs of its snapshot (R100, R152). -/
def beginBuildResolution (s : State) : State :=
  match s.builder.build with
  | some ⟨bank, number, snap, .cursor c mode, .waiting⟩ =>
    startResolution c mode snap.settings snap.view.scale
      (constraintAnchor snap.settings.toolInForce snap.context snap.drag)
      (s.withBuilder { s.builder with build := some ⟨bank, number, snap, .cursor c mode, .resolving⟩ })
  | _ => s

/-- The commit waiting for its grant begins (R127). -/
def beginGrantedCommit (s : State) : State :=
  match s.tool.commit with
  | some ⟨entry, button, queued, false⟩ => beginCommit ⟨entry, button, queued, false⟩ s
  | _ => s

/-- TABLE_GRANT (R76): the grant is made when it is due, and the holder's operation begins. A pick search entered
SEARCHING with the grant itself, and nothing tells its begin from its grant (log 4). -/
def tableGrant (s : State) : State :=
  let s := arbitrate s
  match s.arbiter.holder with
  | some .commit => beginGrantedCommit s
  | some .build => beginBuildResolution s
  | some .update => beginGrantedCell s
  | some .pick0 => s
  | some .pick1 => s
  | none => s

/-- A build's resolution ends: the result and the table generation under the grant go to the composition, and the
grant is released (R152). -/
def endBuildResolution (r : Resolution) (s : State) : State :=
  match s.builder.build with
  | some ⟨bank, number, snap, sort, .resolving⟩ =>
    releaseGrant
      (s.withBuilder
        { s.builder with build := some ⟨bank, number, snap, sort, .composing (some r) s.table.generation⟩ })
  | _ => s

/-- A commit's resolution ends (R130). -/
def endCommitResolution (r : Resolution) (s : State) : State :=
  match s.tool.commit with
  | some ⟨entry, button, queued, true⟩ => finishCommit ⟨entry, button, queued, true⟩ r s
  | _ => s

/-- RESOLUTION_END (R120): the resolution in progress ends with its result, the capture is updated, and the result goes
to the grant's holder. -/
def resolutionEnds (s : State) : State :=
  match s.resolver.resolution with
  | none => s
  | some inputs =>
    let r := resolve inputs s.table
    let s := endResolution r s
    match s.arbiter.holder with
    | some .build => endBuildResolution r s
    | some .commit => endCommitResolution r s
    | _ => s

/-! ## Engine reset (R145) -/

/-- ENGINE_RESET at the tool unit (R145): a commit in progress runs on to its end, and its event is made there; a commit
that waits has its request withdrawn, and the event is made at once, as it is with no commit (log 10). -/
def resetTool (s : State) : State :=
  match s.tool.commit with
  | some ⟨entry, button, _, true⟩ => s.withTool { s.tool with commit := some ⟨entry, button, false, true⟩ }
  | some ⟨_, _, _, false⟩ => toolResetEvent ((withdraw .commit s).withTool { s.tool with commit := none })
  | none => toolResetEvent s

end Sys2Proof.Machine
end

