-- ==== Sys2Proof/Machine/PickOps.lean ====
section
/-! DEFINITION. The pick unit: writes to the slots, the search, completion and abort (chapter 9). -/

namespace Sys2Proof.Machine

/-- The requester name of a slot (R173). -/
def pickRequester : PickId → Requester
  | .pick0 => .pick0
  | .pick1 => .pick1

/-- The completion notice of a slot (R176). -/
def raisePickDone (i : PickId) (s : State) : State :=
  match i with
  | .pick0 => raiseApp .pick0Done s
  | .pick1 => raiseDisp .pick1Done s

/-- The results after a search that finds nothing (R172). -/
def PickSlot.cleared (p : PickSlot) : PickSlot :=
  { p with found := false, handle := none, feature := .none, index := 0, point := ⟨0, 0⟩ }

/-! ## Starting a pick and writing its inputs (R171, R173, R174) -/

/-- A write of 1 to GO of an IDLE slot (R173). -/
def startPick (i : PickId) (s : State) : State :=
  request (pickRequester i)
    (s.withPick i { (s.pick i).cleared with aborted := false, blocked := false, control := .waiting })

/-- A write to an input of an IDLE slot, stored unchecked (R171). A half of a coordinate changes that half (R180). -/
def PickSlot.store (p : PickSlot) (input : PickInput) (v : Word) : PickSlot :=
  match input with
  | .xLow => { p with x := p.x.extractLsb' 16 16 ++ v.extractLsb' 0 16 }
  | .xHigh => { p with x := v.extractLsb' 0 16 ++ p.x.extractLsb' 0 16 }
  | .yLow => { p with y := p.y.extractLsb' 16 16 ++ v.extractLsb' 0 16 }
  | .yHigh => { p with y := v.extractLsb' 0 16 ++ p.y.extractLsb' 0 16 }
  | .x => { p with x := v }
  | .y => { p with y := v }
  | .aperture => { p with aperture := v }
  | .choice => { p with choice := v }
  | .mask => { p with mask := v.setWidth 16 }
  | .matchTag => { p with matchTag := v.setWidth 16 }
  | .enables => { p with enables := v.setWidth 6 }
  | .go => p

/-- A write to an input or to GO of a slot (R171, R173, R174): blocked while the slot is busy. -/
def writePick (i : PickId) (input : PickInput) (v : Word) (s : State) : State :=
  let p := s.pick i
  if p.control ≠ .idle then s.withPick i { p with blocked := true }
  else if input = .go then if v.getLsbD 0 then startPick i s else s
  else s.withPick i (p.store input v)

/-! ## The search (R175) -/

/-- The point Q of a search, world-saturated (R171). -/
def PickSlot.query (p : PickSlot) : Point := satPoint p.x.toInt p.y.toInt

/-- The aperture of a search: 0 taken as 1, above 65535 as 65535 (R171). -/
def PickSlot.radius (p : PickSlot) : Int := clampInt 1 65535 p.aperture.toNat

/-- Mask and match of a search (R175): of a class filter, whatever its enable, or the slot's own. -/
def PickSlot.filter (p : PickSlot) (filters : Vector ClassFilter 4) : Half × Half :=
  match p.choice.toNat with
  | 0 => (filters[0].mask, filters[0].matchTag)
  | 1 => (filters[1].mask, filters[1].matchTag)
  | 2 => (filters[2].mask, filters[2].matchTag)
  | 3 => (filters[3].mask, filters[3].matchTag)
  | _ => (p.mask, p.matchTag)

/-- The best candidate of a search (R175). -/
def pickSearch (p : PickSlot) (filters : Vector ClassFilter 4) (t : Table) : Option Candidate :=
  let f := p.filter filters
  bestCandidate
    (candidates t p.query p.radius (fun tag => tagMatches tag f.1 f.2) (featureOn (p.enables.setWidth 16)))

/-- The result fields a search leaves (R172, R176). -/
def PickSlot.withResult (p : PickSlot) (best : Option Candidate) : PickSlot :=
  match best with
  | none => p.cleared
  | some c =>
    { p with
      found := true
      handle := some c.ref.handle
      feature := c.ref.feature
      index := c.ref.index
      point := c.point }

/-- The completion of a slot's search (R176). -/
def completePick (i : PickId) (s : State) : State :=
  let p := s.pick i
  let done := p.withResult (pickSearch p s.active.filters s.table)
  releaseGrant (raisePickDone i (s.withPick i { done with aborted := false, control := .idle }))

/-- PICK_COMPLETION when the slot that holds the grant is SEARCHING (R176; log 3). -/
def pickCompletes (s : State) : State :=
  match s.arbiter.holder with
  | some .pick0 => if s.pick0.control = .searching then completePick .pick0 s else s
  | some .pick1 => if s.pick1.control = .searching then completePick .pick1 s else s
  | some .commit => s
  | some .build => s
  | some .update => s
  | none => s

/-! ## Engine reset (R177) -/

/-- ENGINE_RESET at a slot: WAITING or SEARCHING is aborted, IDLE is not touched (R177). -/
def abortPick (i : PickId) (s : State) : State :=
  let p := s.pick i
  if p.control = .idle then s
  else
    raisePickDone i
      ((withdraw (pickRequester i) s).withPick i { p.cleared with aborted := true, control := .idle })

end Sys2Proof.Machine
end

