-- ==== Sys2Proof/Machine/PortOps.lean ====
section
/-! DEFINITION. The two ports: INDEX, the window maps for reading and writing, the read latch, and the commands of the
COMMAND location (chapter 10). -/

namespace Sys2Proof.Machine

/-! ## Locations with rows or rules of their own (R179, R195, R196) -/

/-- COMMAND. -/
def locCommand : Nat := 0x000

/-- NOTICE_RAW of the application window. -/
def locAppRaw : Nat := 0x001

/-- ENABLE_SET of the application window. -/
def locAppEnableSet : Nat := 0x003

/-- ENABLE_CLEAR of the application window. -/
def locAppEnableClear : Nat := 0x004

/-- SUBMIT_LO. -/
def locSubmitLo : Nat := 0x010

/-- SUBMIT_HI. -/
def locSubmitHi : Nat := 0x011

/-- COMMIT_POP. -/
def locCommitPop : Nat := 0x05D

/-- The first location of pick slot 0. -/
def locPick0 : Nat := 0x060

/-- NOTICE_RAW of the display window. -/
def locDispRaw : Nat := 0x00

/-- ENABLE_SET of the display window. -/
def locDispEnableSet : Nat := 0x02

/-- ENABLE_CLEAR of the display window. -/
def locDispEnableClear : Nat := 0x03

/-- FRAME_START. -/
def locFrameStart : Nat := 0x08

/-- STREAM. -/
def locStream : Nat := 0x09

/-- STREAM_REWIND. -/
def locStreamRewind : Nat := 0x0A

/-- The first location of the staged view. -/
def locStagedView : Nat := 0x10

/-- The first location of pick slot 1. -/
def locPick1 : Nat := 0x20

/-- The hold locations of each port (R179). -/
def holds (port : PortId) (loc : Nat) : Bool :=
  match port with
  | .app => loc == locCommand || loc == locSubmitHi || loc == locCommitPop
  | .disp => loc == locFrameStart || loc == locStream

/-- INDEX after a DATA access at a location: it holds there, or advances by one with wrap (R179). -/
def indexAfter (port : PortId) (loc : Nat) : Half :=
  if holds port loc then BitVec.ofNat 16 loc else BitVec.ofNat 16 (loc + 1)

/-- The location INDEX selects. -/
def indexOf (port : PortId) (s : State) : Half :=
  match port with
  | .app => s.ports.appIndex
  | .disp => s.ports.dispIndex

/-- INDEX of a port takes a value. -/
def setIndex (port : PortId) (v : Half) (s : State) : State :=
  match port with
  | .app => s.withPorts { s.ports with appIndex := v }
  | .disp => s.withPorts { s.ports with dispIndex := v }

/-- A DATA access at a location has been made: INDEX is where the access leaves it (R179). -/
def accessed (port : PortId) (loc : Nat) (s : State) : State := setIndex port (indexAfter port loc) s

/-! ## Commands (R182, R183, R185) -/

/-- APPLY (R185). -/
def requestApply (s : State) : State := { s with applyPending := true }

/-- ENGINE_RESET taken in RUN (R183): the application port's raw event flags are cleared, the engine is RESETTING, each
block makes its reset effect, and the engine returns to RUN at once when nothing is outstanding. Where this one event
both releases an aborted holder's grant and withdraws the requests of others, R77 and R177 let a withdrawal or a grant
come first; here every withdrawal comes first, and the table is arbitrated at the end alone (log 23, DESIGN CHOICE). -/
def resetEngine (s : State) : State :=
  let s := { s with appNotices := s.appNotices.clear (BitVec.allOnes 14), engine := .resetting }
  let s := resetTool (resetLink s)
  let s := emptyCapture (resetBuilder s)
  let s := abortPick .pick1 (abortPick .pick0 s)
  arbitrate (settleReset (resetUpdate s))

/-- ENGINE_RESET (R183): ignored while RESETTING. -/
def engineReset (s : State) : State :=
  match s.engine with
  | .run => resetEngine s
  | .resetting => s

/-- A write to COMMAND (R182). -/
def command (code : Half) (s : State) : State :=
  match code.toNat with
  | 1 => engineReset s
  | 2 => linkRestart s
  | 3 => requestApply s
  | 4 => updateTeardown s
  | 5 => updateAck s
  | 6 => commitPop s
  | _ => s

/-- The engine status (R182). -/
def engineStatus (s : State) : Half := BitVec.ofNat 16 (bitOf (s.engine == .resetting) + 2 * bitOf s.applyPending)

/-! ## Staged settings by location (R184, R186) -/

/-- The low half of a word. -/
def lowHalf (w : Word) : Half := w.extractLsb' 0 16

/-- The high half of a word. -/
def highHalf (w : Word) : Half := w.extractLsb' 16 16

/-- The word with its low half replaced (R180). -/
def withLow (w : Word) (v : Half) : Word := highHalf w ++ v

/-- The word with its high half replaced (R180). -/
def withHigh (w : Word) (v : Half) : Word := v ++ lowHalf w

/-- A window's setting by its place in the block of seven (R186). -/
def MenuWindow.read (w : MenuWindow) (n : Nat) : Half :=
  match n with
  | 0 => w.mode
  | 1 => w.x0
  | 2 => w.y0
  | 3 => w.width
  | 4 => w.height
  | 5 => w.columns
  | 6 => w.rows
  | _ => 0

/-- A window with a setting written by its place in the block of seven (R186). -/
def MenuWindow.write (w : MenuWindow) (n : Nat) (v : Half) : MenuWindow :=
  match n with
  | 0 => { w with mode := v }
  | 1 => { w with x0 := v }
  | 2 => { w with y0 := v }
  | 3 => { w with width := v }
  | 4 => { w with height := v }
  | 5 => { w with columns := v }
  | 6 => { w with rows := v }
  | _ => w

/-- A class filter's part: enable, mask, match (R186). -/
def ClassFilter.read (f : ClassFilter) (n : Nat) : Half :=
  match n with
  | 0 => f.enable
  | 1 => f.mask
  | _ => f.matchTag

/-- A class filter with a part written (R186). -/
def ClassFilter.write (f : ClassFilter) (n : Nat) (v : Half) : ClassFilter :=
  match n with
  | 0 => { f with enable := v }
  | 1 => { f with mask := v }
  | _ => { f with matchTag := v }

/-- The settings of a set by their offset from the start of its block; offsets the map does not give read 0 (R179,
R186). -/
def Settings.read (st : Settings) (offset : Nat) : Half :=
  match offset with
  | 0x00 => st.originX
  | 0x01 => st.originY
  | 0x02 => st.gainX
  | 0x03 => st.gainY
  | 0x04 => st.holdBand
  | 0x05 => st.debounce
  | 0x06 => st.activeDevice
  | 0x07 => st.presenceTimeout
  | 0x08 => st.linkRate
  | 0x09 => st.tool
  | 0x0A => st.constraint
  | 0x0B => st.closeHint
  | 0x0C => st.enables
  | 0x0D => st.aperture
  | 0x0E => st.release
  | 0x0F => st.showAperture
  | 0x10 => st.crosshair
  | 0x11 => st.arm
  | 0x12 => st.marker
  | 0x13 => st.chords
  | 0x14 => st.learnCap
  | 0x15 => st.learnTag
  | 0x16 => st.pitchX
  | 0x17 => st.pitchY
  | 0x18 => lowHalf st.gridX
  | 0x19 => highHalf st.gridX
  | 0x1A => lowHalf st.gridY
  | 0x1B => highHalf st.gridY
  | 0x20 => st.filters[0].read 0
  | 0x21 => st.filters[0].read 1
  | 0x22 => st.filters[0].read 2
  | 0x23 => st.filters[1].read 0
  | 0x24 => st.filters[1].read 1
  | 0x25 => st.filters[1].read 2
  | 0x26 => st.filters[2].read 0
  | 0x27 => st.filters[2].read 1
  | 0x28 => st.filters[2].read 2
  | 0x29 => st.filters[3].read 0
  | 0x2A => st.filters[3].read 1
  | 0x2B => st.filters[3].read 2
  | 0x30 => st.windowA.read 0
  | 0x31 => st.windowA.read 1
  | 0x32 => st.windowA.read 2
  | 0x33 => st.windowA.read 3
  | 0x34 => st.windowA.read 4
  | 0x35 => st.windowA.read 5
  | 0x36 => st.windowA.read 6
  | 0x38 => st.windowB.read 0
  | 0x39 => st.windowB.read 1
  | 0x3A => st.windowB.read 2
  | 0x3B => st.windowB.read 3
  | 0x3C => st.windowB.read 4
  | 0x3D => st.windowB.read 5
  | 0x3E => st.windowB.read 6
  | _ => 0

/-- A part of a class filter written. -/
def Settings.writeFilter (st : Settings) (i : Fin 4) (n : Nat) (v : Half) : Settings :=
  { st with filters := st.filters.set i.val (st.filters[i.val].write n v) i.isLt }

/-- The settings of a set with one offset written as given; offsets the map does not give ignore the write (R179, R180,
R184, R186). -/
def Settings.write (st : Settings) (offset : Nat) (v : Half) : Settings :=
  match offset with
  | 0x00 => { st with originX := v }
  | 0x01 => { st with originY := v }
  | 0x02 => { st with gainX := v }
  | 0x03 => { st with gainY := v }
  | 0x04 => { st with holdBand := v }
  | 0x05 => { st with debounce := v }
  | 0x06 => { st with activeDevice := v }
  | 0x07 => { st with presenceTimeout := v }
  | 0x08 => { st with linkRate := v }
  | 0x09 => { st with tool := v }
  | 0x0A => { st with constraint := v }
  | 0x0B => { st with closeHint := v }
  | 0x0C => { st with enables := v }
  | 0x0D => { st with aperture := v }
  | 0x0E => { st with release := v }
  | 0x0F => { st with showAperture := v }
  | 0x10 => { st with crosshair := v }
  | 0x11 => { st with arm := v }
  | 0x12 => { st with marker := v }
  | 0x13 => { st with chords := v }
  | 0x14 => { st with learnCap := v }
  | 0x15 => { st with learnTag := v }
  | 0x16 => { st with pitchX := v }
  | 0x17 => { st with pitchY := v }
  | 0x18 => { st with gridX := withLow st.gridX v }
  | 0x19 => { st with gridX := withHigh st.gridX v }
  | 0x1A => { st with gridY := withLow st.gridY v }
  | 0x1B => { st with gridY := withHigh st.gridY v }
  | 0x20 => st.writeFilter 0 0 v
  | 0x21 => st.writeFilter 0 1 v
  | 0x22 => st.writeFilter 0 2 v
  | 0x23 => st.writeFilter 1 0 v
  | 0x24 => st.writeFilter 1 1 v
  | 0x25 => st.writeFilter 1 2 v
  | 0x26 => st.writeFilter 2 0 v
  | 0x27 => st.writeFilter 2 1 v
  | 0x28 => st.writeFilter 2 2 v
  | 0x29 => st.writeFilter 3 0 v
  | 0x2A => st.writeFilter 3 1 v
  | 0x2B => st.writeFilter 3 2 v
  | 0x30 => { st with windowA := st.windowA.write 0 v }
  | 0x31 => { st with windowA := st.windowA.write 1 v }
  | 0x32 => { st with windowA := st.windowA.write 2 v }
  | 0x33 => { st with windowA := st.windowA.write 3 v }
  | 0x34 => { st with windowA := st.windowA.write 4 v }
  | 0x35 => { st with windowA := st.windowA.write 5 v }
  | 0x36 => { st with windowA := st.windowA.write 6 v }
  | 0x38 => { st with windowB := st.windowB.write 0 v }
  | 0x39 => { st with windowB := st.windowB.write 1 v }
  | 0x3A => { st with windowB := st.windowB.write 2 v }
  | 0x3B => { st with windowB := st.windowB.write 3 v }
  | 0x3C => { st with windowB := st.windowB.write 4 v }
  | 0x3D => { st with windowB := st.windowB.write 5 v }
  | 0x3E => { st with windowB := st.windowB.write 6 v }
  | _ => st

/-! ## The commit record locations (R143, R194) -/

/-- The word 0x05B of a record (R194). -/
def menuWord : Option MenuPick → Nat
  | some m => m.window.code + 2 * bitOf m.aux + 256 * m.cell.toNat
  | none => 0

/-- The words of a record that are no half of a pair, by their offset from 0x050 (R194). -/
def CommitRecord.word (r : CommitRecord) (offset : Nat) : Half :=
  match offset with
  | 0 => r.seq
  | 1 =>
    BitVec.ofNat 16
      (r.kind.code + 16 * r.tool.code + 256 * bitOf r.completes + 512 * bitOf r.learnSkipped)
  | 2 => BitVec.ofNat 16 (r.count.toNat + 256 * r.feature.code + 4096 * r.index.toNat)
  | 7 => handleCode r.target
  | 8 => handleCode r.learned
  | 9 => r.r.x.setWidth 16
  | 10 => r.r.y.setWidth 16
  | 11 => BitVec.ofNat 16 (menuWord r.menu)
  | 12 => r.report
  | _ => 0

/-- A coordinate of an optional point; 0 when absent (R140, R195). -/
def pointX (p : Option Point) : Word := signedWord ((p.map Point.x).getD 0)

/-- A coordinate of an optional point; 0 when absent (R140, R195). -/
def pointY (p : Option Point) : Word := signedWord ((p.map Point.y).getD 0)

/-- The oldest record's word, 0 while the log is empty (R143). -/
def recordWord (s : State) (offset : Nat) : Half :=
  match s.tool.log with
  | r :: _ => r.word offset
  | [] => 0

/-- S of the oldest record (R143). -/
def recordPoint (s : State) : Option Point :=
  match s.tool.log with
  | r :: _ => r.s
  | [] => none

/-! ## Reading the application window (R195) -/

/-- GO as it reads (R171, R195). -/
def PickSlot.goWord (p : PickSlot) : Nat := bitOf (p.control != .idle) + 2 * bitOf (p.control == .searching)

/-- The results word of a slot (R195). -/
def PickSlot.resultWord (p : PickSlot) : Nat :=
  bitOf p.found + 2 * bitOf p.aborted + 4 * bitOf p.blocked + 16 * p.feature.code + 256 * p.index.toNat

/-- A field of the list in flight, 0 when there is none (R92). -/
def inFlightWord (s : State) (f : InFlight → Word) : Word :=
  match s.update.inFlight with
  | some l => f l
  | none => 0

/-- The word at 0x012 (R195). -/
def updateStatus (u : UpdateEngine) : Nat :=
  bitOf u.inFlight.isSome + 2 * bitOf u.waiting.isSome + 4 * bitOf (u.inFlight.isSome && u.waiting.isSome)
    + 8 * bitOf u.teardown + 16 * ((u.inFlight.map fun l => l.stage.code).getD 0)

/-- The presence bits of 0x021 (R195). -/
def presenceBits (l : Link) : Nat :=
  ((List.finRange 8).map fun n => bitOf l.presence[n].isPresent * 2 ^ n.val).sum

/-- The word at 0x039 (R195). The waiting bits stand in the order in which the rule names bits and requesters: bit 8 is
COMMIT, bit 4 is PICK1 (log 25, DEDUCED). -/
def arbiterWord (a : Arbiter) : Nat :=
  (a.holder.map Requester.code).getD 0 + 256 * bitOf a.waiting.commit + 128 * bitOf a.waiting.build
    + 64 * bitOf a.waiting.update + 32 * bitOf a.waiting.pick0 + 16 * bitOf a.waiting.pick1 + 4096 * a.turn.code

/-- The capture's feature and index as 0x03B reads (R195). While the capture is empty the feature reads NONE, and the
index, of which R195 says nothing then, reads 0 (log 26, DEDUCED). -/
def captureWord (c : Option FeatureRef) : Nat :=
  match c with
  | some ref => ref.feature.code + 16 * ref.index.toNat
  | none => 0

/-- The 32-bit value of a pair of the application window, by its low location (R180, R195). -/
def appPair (s : State) (low : Nat) : Option Word :=
  match low with
  | 0x015 => some (inFlightWord s InFlight.cell)
  | 0x017 => some (inFlightWord s InFlight.applied)
  | 0x01A => some s.update.record.list.head
  | 0x01C => some s.update.record.applied
  | 0x01E => some s.update.record.lastCell
  | 0x034 => some (signedWord s.table.originX)
  | 0x036 => some (signedWord s.table.originY)
  | 0x041 => some (pointX s.tool.context.first)
  | 0x043 => some (pointY s.tool.context.first)
  | 0x045 => some (pointX s.tool.context.last)
  | 0x047 => some (pointY s.tool.context.last)
  | 0x04A => some (pointX s.tool.drag.base)
  | 0x04C => some (pointY s.tool.drag.base)
  | 0x053 => some (pointX (recordPoint s))
  | 0x055 => some (pointY (recordPoint s))
  | 0x060 => some s.pick0.x
  | 0x062 => some s.pick0.y
  | 0x06C => some (signedWord s.pick0.point.x)
  | 0x06E => some (signedWord s.pick0.point.y)
  | 0x098 => some s.staged.gridX
  | 0x09A => some s.staged.gridY
  | 0x198 => some s.active.gridX
  | 0x19A => some s.active.gridY
  | _ => none

/-- The value of a location of the application window that is no half of a pair. Locations outside the map, write-only and
action locations read 0 (R179, R181, R195). -/
def appWord (s : State) (loc : Nat) : Half :=
  match loc with
  | 0x000 => engineStatus s
  | 0x001 => (appRaw s).setWidth 16
  | 0x002 => s.appNotices.enabled.setWidth 16
  | 0x005 => (appMasked s).setWidth 16
  | 0x010 => s.update.submitLo
  | 0x012 => BitVec.ofNat 16 (updateStatus s.update)
  | 0x013 =>
    BitVec.ofNat 16
      (s.update.lastSerial.toNat + 256 * ((s.update.inFlight.map fun l => l.list.serial.toNat).getD 0))
  | 0x014 =>
    BitVec.ofNat 16
      (((s.update.waiting.map fun l => l.serial.toNat).getD 0) + 256 * s.update.done.toNat)
  | 0x019 => BitVec.ofNat 16 (s.update.record.list.serial.toNat + 256 * s.update.record.status.code)
  | 0x020 =>
    BitVec.ofNat 16
      (s.link.errors.toNat + 256 * s.link.state.code + 1024 * bitOf (s.link.assembler != .hunt))
  | 0x021 => BitVec.ofNat 16 (s.link.run.toNat + 256 * presenceBits s.link)
  | 0x022 => BitVec.ofNat 16 (s.link.condition.code + 16 * s.link.queue.length)
  | 0x023 => s.link.f.x.setWidth 16
  | 0x024 => s.link.f.y.setWidth 16
  | 0x025 => s.link.rawLatch.x.setWidth 16
  | 0x026 => s.link.rawLatch.y.setWidth 16
  | 0x027 => s.link.report
  | 0x030 => BitVec.ofNat 16 s.table.occupied
  | 0x031 => BitVec.ofNat 16 s.table.freeRefs
  | 0x032 => BitVec.ofNat 16 (s.table.wide.length + 256 * s.table.learned.length)
  | 0x033 => s.table.generation
  | 0x038 => BitVec.ofNat 16 s.table.k
  | 0x039 => BitVec.ofNat 16 (arbiterWord s.arbiter)
  | 0x03A => handleCode (s.resolver.capture.map FeatureRef.handle)
  | 0x03B => BitVec.ofNat 16 (captureWord s.resolver.capture)
  | 0x040 => BitVec.ofNat 16 (s.active.toolInForce.code + 256 * s.tool.context.count.toNat)
  | 0x049 => BitVec.ofNat 16 (bitOf s.tool.drag.base.isSome + 256 * s.tool.drag.figure.length)
  | 0x04E => s.tool.sequence
  | 0x04F => BitVec.ofNat 16 s.tool.log.length
  | 0x064 => lowHalf s.pick0.aperture
  | 0x065 => lowHalf s.pick0.choice
  | 0x066 => s.pick0.mask
  | 0x067 => s.pick0.matchTag
  | 0x068 => s.pick0.enables.setWidth 16
  | 0x069 => BitVec.ofNat 16 s.pick0.goWord
  | 0x06A => BitVec.ofNat 16 s.pick0.resultWord
  | 0x06B => handleCode s.pick0.handle
  | _ =>
    if 0x050 ≤ loc ∧ loc ≤ 0x05C then recordWord s (loc - 0x050)
    else if 0x080 ≤ loc ∧ loc ≤ 0x0BE then s.staged.read (loc - 0x080)
    else if 0x180 ≤ loc ∧ loc ≤ 0x1BE then s.active.read (loc - 0x180)
    else 0

/-- The high half a DATA read of a high location returns: the latch's value when it was loaded for that location,
otherwise the half as it stands (R180). -/
def latchedHigh (latch : Option ReadLatch) (loc : Half) (high : Half) : Half :=
  match latch with
  | some l => if l.location = loc then l.value else high
  | none => high

/-- The read latch after a DATA read of a high location: emptied when it was loaded for it (R180). -/
def latchAfterHigh (latch : Option ReadLatch) (loc : Half) : Option ReadLatch :=
  match latch with
  | some l => if l.location = loc then none else some l
  | none => none

/-- A DATA read on the application port: the value, and the latch after it (R180). -/
def appRead (s : State) (loc : Nat) : Half × Option ReadLatch :=
  match appPair s loc with
  | some w => (lowHalf w, some ⟨BitVec.ofNat 16 (loc + 1), highHalf w⟩)
  | none =>
    match if loc = 0 then none else appPair s (loc - 1) with
    | some w =>
      (latchedHigh s.ports.latch (BitVec.ofNat 16 loc) (highHalf w), latchAfterHigh s.ports.latch (BitVec.ofNat 16 loc))
    | none => (appWord s loc, s.ports.latch)

/-! ## Reading the display window (R196) -/

/-- The value of a location of the display window besides STREAM (R196). -/
def dispWord (s : State) (loc : Nat) : Word :=
  let b := s.builder
  match loc with
  | 0x00 => s.dispNotices.raised.setWidth 32
  | 0x01 => s.dispNotices.enabled.setWidth 32
  | 0x04 => (dispMasked s).setWidth 32
  | 0x0B => BitVec.ofNat 32 b.streamPtr
  | 0x0C =>
    BitVec.ofNat 32
      (b.banks[0].state.code + 4 * b.banks[1].state.code + 16 * b.banks[2].state.code
        + 65536 * (shownBuild b).toNat)
  | 0x0D => BitVec.ofNat 32 (bitOf b.rebuild + 2 * bitOf b.stagedWritten + 65536 * b.counter.toNat)
  | 0x0E => b.viewGen.setWidth 32
  | 0x10 => b.staged.ox
  | 0x11 => b.staged.oy
  | 0x12 => b.staged.scale
  | 0x13 => b.staged.width
  | 0x14 => b.staged.height
  | 0x18 => signedWord b.view.ox
  | 0x19 => signedWord b.view.oy
  | 0x1A => signedWord b.view.scale
  | 0x1B => signedWord b.view.width
  | 0x1C => signedWord b.view.height
  | 0x1D => pointX b.lastDrawing
  | 0x1E => pointY b.lastDrawing
  | 0x1F => BitVec.ofNat 32 (bitOf b.lastDrawing.isSome)
  | 0x20 => s.pick1.x
  | 0x21 => s.pick1.y
  | 0x22 => s.pick1.aperture
  | 0x23 => s.pick1.choice
  | 0x24 => s.pick1.mask.setWidth 32
  | 0x25 => s.pick1.matchTag.setWidth 32
  | 0x26 => s.pick1.enables.setWidth 32
  | 0x27 => BitVec.ofNat 32 s.pick1.goWord
  | 0x28 => BitVec.ofNat 32 s.pick1.resultWord
  | 0x29 => (handleCode s.pick1.handle).setWidth 32
  | 0x2A => signedWord s.pick1.point.x
  | 0x2B => signedWord s.pick1.point.y
  | _ => 0

/-- A read of STREAM: the word goes to the port, the pointer advances (R167). -/
def readStream (s : State) : State :=
  let s' := advanceStream s
  s'.withPorts { s'.ports with dispData := streamWord s }

/-- A DATA read of a location of the application port (R179, R180). -/
def readApp (loc : Nat) (s : State) : State :=
  let r := appRead s loc
  accessed .app loc (s.withPorts { s.ports with appData := r.1, latch := r.2 })

/-- A DATA read of a location of the display port (R167, R179). -/
def readDisp (loc : Nat) (s : State) : State :=
  accessed .disp loc
    (if loc = locStream then readStream s else s.withPorts { s.ports with dispData := dispWord s loc })

/-- A read at one of a port's two addresses (R179). -/
def portRead (port : PortId) (address : PortAddr) (s : State) : State :=
  match port, address with
  | .app, .index => s.withPorts { s.ports with appData := s.ports.appIndex }
  | .disp, .index => s.withPorts { s.ports with dispData := s.ports.dispIndex.setWidth 32 }
  | .app, .data => readApp s.ports.appIndex.toNat s
  | .disp, .data => readDisp s.ports.dispIndex.toNat s

/-! ## Writing the windows (R181, R195, R196) -/

/-- The writable inputs of pick slot 0 by their offset from 0x060 (R195). -/
def pick0Input (offset : Nat) : Option PickInput :=
  match offset with
  | 0 => some .xLow
  | 1 => some .xHigh
  | 2 => some .yLow
  | 3 => some .yHigh
  | 4 => some .aperture
  | 5 => some .choice
  | 6 => some .mask
  | 7 => some .matchTag
  | 8 => some .enables
  | 9 => some .go
  | _ => none

/-- The writable inputs of pick slot 1 by their offset from 0x20 (R196). -/
def pick1Input (offset : Nat) : Option PickInput :=
  match offset with
  | 0 => some .x
  | 1 => some .y
  | 2 => some .aperture
  | 3 => some .choice
  | 4 => some .mask
  | 5 => some .matchTag
  | 6 => some .enables
  | 7 => some .go
  | _ => none

/-- The location of an input of a slot, when its window has one (R195, R196). -/
def pickLocation (i : PickId) (input : PickInput) : Option Nat :=
  match i with
  | .pick0 => ((List.range 10).find? fun n => pick0Input n == some input).map (locPick0 + ·)
  | .pick1 => ((List.range 8).find? fun n => pick1Input n == some input).map (locPick1 + ·)

/-- The fields of the staged view by their offset from 0x10 (R196). -/
def viewFieldAt (offset : Nat) : Option ViewField :=
  match offset with
  | 0 => some .ox
  | 1 => some .oy
  | 2 => some .scale
  | 3 => some .width
  | 4 => some .height
  | _ => none

/-- The location of a field of the staged view (R196). -/
def viewLocation : ViewField → Nat
  | .ox => locStagedView
  | .oy => locStagedView + 1
  | .scale => locStagedView + 2
  | .width => locStagedView + 3
  | .height => locStagedView + 4

/-- ENABLE_SET of a port (R189). -/
def enableNotices (port : PortId) (v : Word) (s : State) : State :=
  match port with
  | .app => { s with appNotices := s.appNotices.enable (v.setWidth 14) }
  | .disp => { s with dispNotices := s.dispNotices.enable (v.setWidth 3) }

/-- ENABLE_CLEAR of a port (R189). -/
def disableNotices (port : PortId) (v : Word) (s : State) : State :=
  match port with
  | .app => { s with appNotices := s.appNotices.disable (v.setWidth 14) }
  | .disp => { s with dispNotices := s.dispNotices.disable (v.setWidth 3) }

/-- NOTICE_RAW of a port (R189). -/
def clearNotices (port : PortId) (v : Word) (s : State) : State :=
  match port with
  | .app => clearApp (v.setWidth 14) s
  | .disp => clearDisp (v.setWidth 3) s

/-- The effect of a DATA write at a location of the application window, besides INDEX (R181, R195). -/
def writeApp (loc : Nat) (v : Word) (s : State) : State :=
  if loc = locCommand then command (lowHalf v) s
  else if loc = locAppRaw then clearNotices .app v s
  else if loc = locAppEnableSet then enableNotices .app v s
  else if loc = locAppEnableClear then disableNotices .app v s
  else if loc = locSubmitLo then writeSubmitLo (lowHalf v) s
  else if loc = locSubmitHi then submit (lowHalf v) s
  else if loc = locCommitPop then commitPop s
  else if locPick0 ≤ loc ∧ loc ≤ 0x069 then
    match pick0Input (loc - locPick0) with
    | some input => writePick .pick0 input ((lowHalf v).setWidth 32) s
    | none => s
  else if 0x080 ≤ loc ∧ loc ≤ 0x0BE then { s with staged := s.staged.write (loc - 0x080) (lowHalf v) }
  else s

/-- The effect of a DATA write at a location of the display window, besides INDEX (R181, R196). -/
def writeDisp (loc : Nat) (v : Word) (s : State) : State :=
  if loc = locDispRaw then clearNotices .disp v s
  else if loc = locDispEnableSet then enableNotices .disp v s
  else if loc = locDispEnableClear then disableNotices .disp v s
  else if loc = locFrameStart then frameStart s
  else if loc = locStreamRewind then rewindStream s
  else if locStagedView ≤ loc ∧ loc ≤ 0x14 then
    match viewFieldAt (loc - locStagedView) with
    | some field => writeStagedView field v s
    | none => s
  else if locPick1 ≤ loc ∧ loc ≤ 0x27 then
    match pick1Input (loc - locPick1) with
    | some input => writePick .pick1 input v s
    | none => s
  else s

/-- A write at one of a port's two addresses (R179, R181). -/
def portWrite (port : PortId) (address : PortAddr) (v : Word) (s : State) : State :=
  match port, address with
  | .app, .index => setIndex .app (lowHalf v) s
  | .disp, .index => setIndex .disp (lowHalf v) s
  | .app, .data => accessed .app s.ports.appIndex.toNat (writeApp s.ports.appIndex.toNat v s)
  | .disp, .data => accessed .disp s.ports.dispIndex.toNat (writeDisp s.ports.dispIndex.toNat v s)

/-- A write to an input or GO of a slot through its window (R174); an input the window does not hold reaches nothing
(log 17). -/
def writePickAt (i : PickId) (input : PickInput) (v : Word) (s : State) : State :=
  match pickLocation i input with
  | none => s
  | some loc =>
    match i with
    | .pick0 => accessed .app loc (writePick .pick0 input ((lowHalf v).setWidth 32) s)
    | .pick1 => accessed .disp loc (writePick .pick1 input v s)

end Sys2Proof.Machine
end

