-- ==== Sys2Proof/Machine/BuilderCommands.lean ====
section
/-! DEFINITION. The meanings of the builder's rows: BUILD_START, BUILD_COMPLETION, FRAME_START, STREAM, STREAM_REWIND,
STAGED_VIEW_WRITE. -/

namespace Sys2Proof.Machine

/-- BUILD_START (R148). -/
def execBuildStart (s : State) : Host.Outcome State Fault Refusal := .next (tryBuildStart s)

/-- BUILD_COMPLETION (R163). -/
def execBuildCompletion (s : State) : Host.Outcome State Fault Refusal := .next (completeBuild s)

/-- FRAME_START (R166): the value written does not matter. -/
def execFrameStart (_value : Word) (s : State) : Host.Outcome State Fault Refusal :=
  .next (accessed .disp locFrameStart (frameStart s))

/-- STREAM (R167). -/
def execStream (s : State) : Host.Outcome State Fault Refusal := .next (accessed .disp locStream (readStream s))

/-- STREAM_REWIND (R167): the value written does not matter. -/
def execStreamRewind (_value : Word) (s : State) : Host.Outcome State Fault Refusal :=
  .next (accessed .disp locStreamRewind (rewindStream s))

/-- STAGED_VIEW_WRITE (R165). -/
def execStagedViewWrite (field : ViewField) (value : Word) (s : State) : Host.Outcome State Fault Refusal :=
  .next (accessed .disp (viewLocation field) (writeStagedView field value s))

end Sys2Proof.Machine
end

