-- ==== Sys2Proof/Machine/CommitCommands.lean ====
section
/-! DEFINITION. The meanings of TABLE_GRANT, COMMIT_START and RESOLUTION_END. -/

namespace Sys2Proof.Machine

/-- TABLE_GRANT (R76). -/
def execTableGrant (s : State) : Host.Outcome State Fault Refusal := .next (tableGrant s)

/-- COMMIT_START (R126). -/
def execCommitStart (s : State) : Host.Outcome State Fault Refusal := .next (tryCommitStart s)

/-- RESOLUTION_END (R120). -/
def execResolutionEnd (s : State) : Host.Outcome State Fault Refusal := .next (resolutionEnds s)

end Sys2Proof.Machine
end

