-- ==== Sys2Proof/Machine/LinkCommands.lean ====
section
/-! DEFINITION. The meanings of the events of the tablet line: BYTE_ARRIVAL, GAP_EXPIRY, PRESENCE_EXPIRY. -/

namespace Sys2Proof.Machine

/-- BYTE_ARRIVAL (R28). -/
def execByteArrival (time : Nat) (sound : Bool) (byte : Byte) (s : State) : Host.Outcome State Fault Refusal :=
  .next (takeByte time sound byte s)

/-- GAP_EXPIRY (R30). -/
def execGapExpiry (time : Nat) (s : State) : Host.Outcome State Fault Refusal := .next (gapExpires time s)

/-- PRESENCE_EXPIRY (R36). -/
def execPresenceExpiry (time : Nat) (device : Fin 8) (s : State) : Host.Outcome State Fault Refusal :=
  .next (presenceExpires time device s)

end Sys2Proof.Machine
end

