-- ==== Sys2Proof/Machine/PickCommands.lean ====
section
/-! DEFINITION. The meanings of the pick unit's rows: PICK_GO, PICK_BLOCKED_WRITE, PICK_COMPLETION. -/

namespace Sys2Proof.Machine

/-- PICK_GO (R173): a write of 1 to GO. -/
def execPickGo (slot : PickId) (s : State) : Host.Outcome State Fault Refusal := .next (writePickAt slot .go 1 s)

/-- PICK_BLOCKED_WRITE (R174): a write to an input or GO, blocked while the slot is busy. -/
def execPickBlockedWrite (slot : PickId) (input : PickInput) (value : Word) (s : State) :
    Host.Outcome State Fault Refusal :=
  .next (writePickAt slot input value s)

/-- PICK_COMPLETION (R176). -/
def execPickCompletion (s : State) : Host.Outcome State Fault Refusal := .next (pickCompletes s)

end Sys2Proof.Machine
end

