-- ==== Sys2Proof/Machine/PortCommands.lean ====
section
/-! DEFINITION. The meanings of the ports' rows: NOTICE_RAW, ENABLE_SET, ENABLE_CLEAR, DATA_READ, REGISTER_WRITE. -/

namespace Sys2Proof.Machine

/-- The location of NOTICE_RAW in a port's window (R195, R196). -/
def rawLocation : PortId → Nat
  | .app => locAppRaw
  | .disp => locDispRaw

/-- The location of ENABLE_SET in a port's window (R195, R196). -/
def enableSetLocation : PortId → Nat
  | .app => locAppEnableSet
  | .disp => locDispEnableSet

/-- The location of ENABLE_CLEAR in a port's window (R195, R196). -/
def enableClearLocation : PortId → Nat
  | .app => locAppEnableClear
  | .disp => locDispEnableClear

/-- NOTICE_RAW (R189). -/
def execNoticeRaw (port : PortId) (value : Word) (s : State) : Host.Outcome State Fault Refusal :=
  .next (accessed port (rawLocation port) (clearNotices port value s))

/-- ENABLE_SET (R189). -/
def execEnableSet (port : PortId) (value : Word) (s : State) : Host.Outcome State Fault Refusal :=
  .next (accessed port (enableSetLocation port) (enableNotices port value s))

/-- ENABLE_CLEAR (R189). -/
def execEnableClear (port : PortId) (value : Word) (s : State) : Host.Outcome State Fault Refusal :=
  .next (accessed port (enableClearLocation port) (disableNotices port value s))

/-- DATA_READ (R180), and the read of INDEX (R179). -/
def execDataRead (port : PortId) (address : PortAddr) (s : State) : Host.Outcome State Fault Refusal :=
  .next (portRead port address s)

/-- REGISTER_WRITE (R181). A DATA write at a location that has a row of its own makes that row's effect. -/
def execRegisterWrite (port : PortId) (address : PortAddr) (value : Word) (s : State) :
    Host.Outcome State Fault Refusal :=
  .next (portWrite port address value s)

end Sys2Proof.Machine
end

