-- ==== Sys2Proof/Machine/SystemCommands.lean ====
section
/-! DEFINITION. The meanings of POWER_ON and of the commands of the COMMAND location. A command of a port's location is
the DATA write at it: INDEX has selected the location, and is left as the access leaves it (R179; log 5). -/

namespace Sys2Proof.Machine

/-- POWER_ON (R190): every piece of state of every block takes its reset value. -/
def execPowerOn (s : State) : Host.Outcome State Fault Refusal := .next { State.reset with pending := s.pending }

/-- ENGINE_RESET (R183). -/
def execEngineReset (s : State) : Host.Outcome State Fault Refusal := .next (accessed .app locCommand (engineReset s))

/-- LINK_RESTART (R35). -/
def execLinkRestart (s : State) : Host.Outcome State Fault Refusal := .next (accessed .app locCommand (linkRestart s))

/-- APPLY (R185). -/
def execApply (s : State) : Host.Outcome State Fault Refusal := .next (accessed .app locCommand (requestApply s))

/-- UPDATE_TEARDOWN (R93). -/
def execUpdateTeardown (s : State) : Host.Outcome State Fault Refusal :=
  .next (accessed .app locCommand (updateTeardown s))

/-- UPDATE_ACK (R91). -/
def execUpdateAck (s : State) : Host.Outcome State Fault Refusal := .next (accessed .app locCommand (updateAck s))

/-- The location through which a COMMIT_POP is issued (R182). -/
def popLocation : PopPath → Nat
  | .command => locCommand
  | .location => locCommitPop

/-- COMMIT_POP (R144). -/
def execCommitPop (path : PopPath) (s : State) : Host.Outcome State Fault Refusal :=
  .next (accessed .app (popLocation path) (commitPop s))

end Sys2Proof.Machine
end

