-- ==== Sys2Proof/Machine/UpdateCommands.lean ====
section
/-! DEFINITION. The meanings of the update engine's rows: SUBMIT_HI, FETCH_COMPLETION, CELL_APPLICATION,
WRITE_BACK_COMPLETION, MARKING_COMPLETION. -/

namespace Sys2Proof.Machine

/-- SUBMIT_HI (R81). -/
def execSubmitHi (value : Half) (s : State) : Host.Outcome State Fault Refusal :=
  .next (accessed .app locSubmitHi (submit value s))

/-- FETCH_COMPLETION (R84). -/
def execFetchCompletion (reply : FetchReply) (s : State) : Host.Outcome State Fault Refusal :=
  .next (fetchCompletes reply s)

/-- CELL_APPLICATION (R85). -/
def execCellApplication (s : State) : Host.Outcome State Fault Refusal := .next (cellApplies s)

/-- WRITE_BACK_COMPLETION (R88). -/
def execWriteBackCompletion (handleError controlError : Bool) (s : State) : Host.Outcome State Fault Refusal :=
  .next (writeBackCompletes handleError controlError s)

/-- MARKING_COMPLETION (R94). -/
def execMarkingCompletion (busError : Bool) (s : State) : Host.Outcome State Fault Refusal :=
  .next (markingCompletes busError s)

end Sys2Proof.Machine
end

