-- ==== Sys2Proof/Machine/Dispatch.lean ====
section
/-! DEFINITION. The dispatch of a command to its meaning, one arm for each row of spec/opcode_table.json. -/

namespace Sys2Proof.Machine

def exec (i : Instr) (s : State) : Host.Outcome State Fault Refusal :=
  match i with
  | .powerOn => Sys2Proof.Machine.execPowerOn s
  | .byteArrival time sound byte => Sys2Proof.Machine.execByteArrival time sound byte s
  | .gapExpiry time => Sys2Proof.Machine.execGapExpiry time s
  | .presenceExpiry time device => Sys2Proof.Machine.execPresenceExpiry time device s
  | .engineReset => Sys2Proof.Machine.execEngineReset s
  | .linkRestart => Sys2Proof.Machine.execLinkRestart s
  | .apply => Sys2Proof.Machine.execApply s
  | .updateTeardown => Sys2Proof.Machine.execUpdateTeardown s
  | .updateAck => Sys2Proof.Machine.execUpdateAck s
  | .commitPop path => Sys2Proof.Machine.execCommitPop path s
  | .submitHi value => Sys2Proof.Machine.execSubmitHi value s
  | .fetchCompletion reply => Sys2Proof.Machine.execFetchCompletion reply s
  | .tableGrant => Sys2Proof.Machine.execTableGrant s
  | .cellApplication => Sys2Proof.Machine.execCellApplication s
  | .writeBackCompletion handleError controlError => Sys2Proof.Machine.execWriteBackCompletion handleError controlError s
  | .markingCompletion busError => Sys2Proof.Machine.execMarkingCompletion busError s
  | .commitStart => Sys2Proof.Machine.execCommitStart s
  | .resolutionEnd => Sys2Proof.Machine.execResolutionEnd s
  | .buildStart => Sys2Proof.Machine.execBuildStart s
  | .buildCompletion => Sys2Proof.Machine.execBuildCompletion s
  | .frameStart value => Sys2Proof.Machine.execFrameStart value s
  | .stream => Sys2Proof.Machine.execStream s
  | .streamRewind value => Sys2Proof.Machine.execStreamRewind value s
  | .stagedViewWrite field value => Sys2Proof.Machine.execStagedViewWrite field value s
  | .pickGo slot => Sys2Proof.Machine.execPickGo slot s
  | .pickBlockedWrite slot input value => Sys2Proof.Machine.execPickBlockedWrite slot input value s
  | .pickCompletion => Sys2Proof.Machine.execPickCompletion s
  | .noticeRaw port value => Sys2Proof.Machine.execNoticeRaw port value s
  | .enableSet port value => Sys2Proof.Machine.execEnableSet port value s
  | .enableClear port value => Sys2Proof.Machine.execEnableClear port value s
  | .dataRead port address => Sys2Proof.Machine.execDataRead port address s
  | .registerWrite port address value => Sys2Proof.Machine.execRegisterWrite port address value s

end Sys2Proof.Machine
end

