-- ==== Sys2Proof/Safety.lean ====
section
/-! DEFINITION. What holds of the engine at every moment: the laws the spec states of its state, block by block. Claims name
these laws; no run from power-on leaves them. The engine never stops, so a safe run is one whose states meet the
laws. -/

namespace Sys2Proof.Machine

/-! ## Outstanding and begun operations (R75 to R77) -/

/-- The stage of the list in flight, if there is one. -/
def State.stage (s : State) : Option Stage := s.update.inFlight.map InFlight.stage

/-- A list's cell waits for the UPDATE grant or is applied under it (R85). -/
def Stage.needsTable : Stage → Bool
  | .fetching => false
  | .waiting c => isTableOp c.op
  | .granted _ => true
  | .applying _ => true
  | .writingBack _ _ _ => false
  | .marking => false

/-- A list is in APPLYING, its op begun or not (R85). -/
def Stage.isApplying : Stage → Bool
  | .granted _ => true
  | .applying _ => true
  | _ => false

/-- A build waits for its grant or resolves under it (R152). -/
def BuildPhase.needsTable : BuildPhase → Bool
  | .waiting => true
  | .resolving => true
  | .composing _ _ => false

/-- A build's resolution is in progress (R152). -/
def BuildPhase.isResolving : BuildPhase → Bool
  | .resolving => true
  | _ => false

/-- A requester has an operation that waits for its grant or is under it (R75). -/
def State.outstanding (s : State) : Requester → Bool
  | .commit => s.tool.commit.isSome
  | .build => (s.builder.build.map fun b => b.phase.needsTable).getD false
  | .update => (s.stage.map Stage.needsTable).getD false
  | .pick0 => s.pick0.control != .idle
  | .pick1 => s.pick1.control != .idle

/-- A requester is at work under its grant (R75): a commit's or a build's resolution is in progress, the list is in
APPLYING, a pick slot is SEARCHING. -/
def State.begun (s : State) : Requester → Bool
  | .commit => (s.tool.commit.map CommitInHand.resolving).getD false
  | .build => (s.builder.build.map fun b => b.phase.isResolving).getD false
  | .update => (s.stage.map Stage.isApplying).getD false
  | .pick0 => s.pick0.control == .searching
  | .pick1 => s.pick1.control == .searching

/-- The law of the table access arbiter (R75 to R77): each request and each grant belongs to one outstanding operation,
and the table is free only while nobody waits for it. -/
structure State.GrantLaw (s : State) : Prop where
  /-- While no grant is held no request waits (R76). -/
  free : s.arbiter.holder = none → ∀ r, s.arbiter.waiting.get r = false
  /-- An operation is outstanding exactly while its request waits or its grant is held (R75). -/
  owned : ∀ r, s.outstanding r = (s.arbiter.waiting.get r || s.arbiter.holder == some r)
  /-- The holder has no request waiting (R75). -/
  single : ∀ r, s.arbiter.holder = some r → s.arbiter.waiting.get r = false
  /-- An operation begins under its own grant alone (R75). -/
  begun : ∀ r, s.begun r = true → s.arbiter.holder = some r
  /-- A list enters APPLYING and a pick slot SEARCHING with the grant (R85, R173; log 4). -/
  entered : ∀ r, r ≠ .commit → r ≠ .build → s.arbiter.holder = some r → s.begun r = true
  /-- A resolution is in progress exactly while a commit's or a build's has begun (R99). -/
  resolution : s.resolver.resolution.isSome = (s.begun .commit || s.begun .build)
  /-- An emptying of the capture waits only for a resolution in progress (R114). -/
  emptying : s.resolver.emptying = true → s.resolver.resolution.isSome = true
  /-- Only a PLACE or an AUX resolves (R130). -/
  buttons : ∀ c, s.tool.commit = some c → c.resolving = true → c.button = .place ∨ c.button = .aux
  /-- A drag cell waits only for a commit in progress (R87). -/
  drag : ∀ c, s.stage = some (.waiting c) → isTableOp c.op = false → s.arbiter.holder = some .commit

/-- The law of the update engine and of a reset in progress (R82, R93, R96, R183). -/
structure State.UpdateLaw (s : State) : Prop where
  /-- A list waits only behind a list in flight (R82). -/
  waiting : s.update.waiting.isSome = true → s.update.inFlight.isSome = true
  /-- Teardown is pending only for a list in flight (R90, R93). -/
  teardown : s.update.teardown = true → s.update.inFlight.isSome = true
  /-- The current cell address of a list in flight is nonzero and a multiple of 32 (R83, R89). -/
  cell : ∀ f, s.update.inFlight = some f → f.cell ≠ 0 ∧ aligned f.cell = true
  /-- While RESETTING, a list or a commit is outstanding (R183). -/
  resetting : s.engine = .resetting → s.update.inFlight.isSome = true ∨ s.tool.commit.isSome = true
  /-- While RESETTING, no cell waits or stands before its op, no build is in flight, and a commit outstanding has its
  resolution in progress (R96, R145, R169). -/
  stopped : s.engine = .resetting →
    (∀ c, s.stage ≠ some (.waiting c) ∧ s.stage ≠ some (.granted c)) ∧ s.builder.build = none ∧
      ∀ c, s.tool.commit = some c → c.resolving = true
  /-- While RESETTING, a commit outstanding has its press out of the queue, and the capture's emptying waits for its
  resolution (R114, R145). -/
  finishing : s.engine = .resetting → ∀ c, s.tool.commit = some c → c.queued = false ∧ s.resolver.emptying = true
  /-- While RESETTING with no commit left, the events of the tool unit and of the capture are made (R114, R145). -/
  cleared : s.engine = .resetting → s.tool.commit = none →
    s.tool.context = ToolContext.empty ∧ s.tool.drag = Drag.empty ∧ s.tool.log = [] ∧ s.resolver.capture = none

/-! ## The snap target table (R54 to R70) -/

/-- The slot is entered in the bin. -/
def Table.binHas (t : Table) (b : BinNo) (n : SlotNo) : Prop := n ∈ t.bins[b]

/-- The references in use (R59): one for each entry of a slot in a bin. -/
def Table.refsUsed (t : Table) : Nat := (t.bins.toList.map List.length).sum

/-- The laws of the table (R58 to R60, R70), with sets held in ascending order so that equal sets are equal data. -/
structure Table.Law (t : Table) (learnCap : Nat) : Prop where
  /-- Bins hold exactly the slots placed in them (R59). -/
  bins : ∀ b n, t.binHas b n ↔ ∃ g l, t.target n = some g ∧ g.placement = .bins l ∧ b ∈ l
  /-- The wide list holds exactly the slots placed WIDE (R59). -/
  wide : ∀ n, n ∈ t.wide ↔ ∃ g, t.target n = some g ∧ g.placement = .wide
  /-- A target placed in bins is entered in each bin its box overlaps, one to eight of them (R55, R60). -/
  placed : ∀ n g l, t.target n = some g → g.placement = .bins l →
    t.boxInside g.shape.box = true ∧ l = t.binsOf g.shape.box ∧ l.length ≤ Config.maxBinsPerTarget
  /-- Used and free references number 2048 (R59). -/
  refs : t.refsUsed + t.freeRefs = Config.poolSize
  /-- The wide list holds at most 64 slots (R59). -/
  wideCap : t.wide.length ≤ Config.wideCap
  /-- The sets are in canonical form. -/
  binsSorted : ∀ b : BinNo, (t.bins[b]).Pairwise (· < ·)
  /-- The wide list is in canonical form. -/
  wideSorted : t.wide.Pairwise (· < ·)
  /-- The learned list holds exactly the LEARNED targets, each once (R70). -/
  learned : ∀ n, n ∈ t.learned ↔ ∃ g, t.target n = some g ∧ g.origin = .learned
  /-- No slot stands twice in the learned list (R70). -/
  learnedOnce : t.learned.Nodup
  /-- No two learned targets have equal coordinates (R70). -/
  learnedApart : ∀ m n, m ∈ t.learned → n ∈ t.learned → (t.target m).map Target.shape = (t.target n).map Target.shape →
    m = n
  /-- A LEARNED target is a POINT (R55). -/
  learnedPoint : ∀ n g, t.target n = some g → g.origin = .learned → ∃ p, g.shape = .point p
  /-- The learned list holds at most LEARN_CAP entries (R70). -/
  learnedCap : t.learned.length ≤ learnCap
  /-- The bin size exponent is 4 to 19 (R58). -/
  window : 4 ≤ t.k ∧ t.k ≤ 19

/-- The laws of the table in a state: LEARN_CAP is the active setting (R70). -/
def State.TableLaw (s : State) : Prop := s.table.Law s.active.learnCap.toNat

/-! ## World points (R1, R6) -/

/-- The coordinates of a shape lie in the world range, and a radius in 0..8,388,607 (R55). -/
def Shape.inRange : Shape → Prop
  | .point p => p.inWorld = true
  | .segment a b => a.inWorld = true ∧ b.inWorld = true
  | .circle c r => c.inWorld = true ∧ (r : Int) ≤ Config.worldMax

/-- A point, when there is one, lies in the world range. -/
def pointInRange (p : Option Point) : Prop := ∀ q, p = some q → q.inWorld = true

/-- A world offset lies in −16,777,215..16,777,215 on each axis (R1, R24). -/
def offsetInRange (o : Point) : Prop := o.x.natAbs ≤ 16777215 ∧ o.y.natAbs ≤ 16777215

/-- The world points of a tool context and of a drag base, and the offsets of the drag figure (R24, R123, R125). -/
def figureInRange (context : ToolContext) (drag : Drag) : Prop :=
  pointInRange context.first ∧ pointInRange context.last ∧ pointInRange drag.base ∧
    ∀ g ∈ drag.figure, offsetInRange g.o0 ∧ offsetInRange g.o1

/-- The world origin of a view (R8). -/
def View.origin (v : View) : Point := ⟨v.ox, v.oy⟩

/-- The point of a bank entry, when it has one, lies in the world range (R193). -/
def Entry.inRange : Entry → Prop
  | .header _ => True
  | .cursorInfo p _ => p.inWorld = true
  | .move p _ _ => p.inWorld = true
  | .draw p _ _ => p.inWorld = true
  | .endMark => True

/-- The world points of a build in flight: C, the snapshot's view origin, anchors, base and offsets, and the result's S
(R150 to R152). -/
structure Build.InRange (b : Build) : Prop where
  cursor : ∀ c mode, b.sort = .cursor c mode → c.inWorld = true
  view : b.snapshot.view.origin.inWorld = true
  figure : figureInRange b.snapshot.context b.snapshot.drag
  drawing : pointInRange b.snapshot.lastDrawing
  result : ∀ r gen, b.phase = .composing (some r) gen → r.s.inWorld = true

/-- Every world point that the engine holds lies in the world range (R1, R6, R55). -/
structure State.RangeLaw (s : State) : Prop where
  /-- The targets (R55). -/
  targets : ∀ n g, s.table.target n = some g → g.shape.inRange
  /-- The origin of the bin window (R58). -/
  window : Point.inWorld ⟨s.table.originX, s.table.originY⟩ = true
  /-- The anchors and the drag base, and the offsets of the drag figure (R24, R123, R125). -/
  figure : figureInRange s.tool.context s.tool.drag
  /-- The points of the commit log (R140). -/
  log : ∀ r ∈ s.tool.log, pointInRange r.s
  /-- C and the anchor of a resolution in progress (R100, R101). -/
  resolution : ∀ i, s.resolver.resolution = some i → i.c.inWorld = true ∧ pointInRange i.anchor
  /-- The origin of the current view (R8). -/
  view : s.builder.view.origin.inWorld = true
  /-- The points of every bank's entries (R156 to R162, R193). -/
  banks : ∀ i : Fin 3, ∀ e ∈ (s.builder.banks[i]).entries, e.inRange
  /-- The build in flight (R150 to R152). -/
  build : ∀ b, s.builder.build = some b → b.InRange
  /-- The last drawing point (R153). -/
  drawing : pointInRange s.builder.lastDrawing
  /-- The result points of the pick slots (R172). -/
  picks : ∀ i, (s.pick i).point.inWorld = true

/-! ## The tool unit (R123, R125, R142) -/

/-- The law of the tool context and of the drag figure (R123, R125). -/
structure State.ToolLaw (s : State) : Prop where
  /-- The anchors are present exactly while the count is 1 or more (R123). -/
  anchors : (s.tool.context.count = 0 ↔ s.tool.context.first = none) ∧
    (s.tool.context.count = 0 ↔ s.tool.context.last = none)
  /-- With NONE or MOVE the count is 0 (R123). -/
  still : s.active.toolInForce = .none ∨ s.active.toolInForce = .move → s.tool.context.count = 0
  /-- With LINE, RECT or CIRCLE the count is at most 1 (R123). -/
  twoPoint : s.active.toolInForce = .line ∨ s.active.toolInForce = .rect ∨ s.active.toolInForce = .circle →
    s.tool.context.count.toNat ≤ 1
  /-- The figure holds at most 64 segments (R125). -/
  figure : s.tool.drag.figure.length ≤ Config.dragCap
  /-- The figure is empty when no base is set (R125). -/
  base : s.tool.drag.base = none → s.tool.drag.figure = []

/-- The sequence numbers of a log that ends at a counter value: consecutive modulo 65536, the newest the counter's
(R141, R142). -/
def sequenceEndsAt (counter : Half) : List CommitRecord → Prop
  | [] => True
  | r :: rest => r.seq = counter - BitVec.ofNat 16 rest.length ∧ sequenceEndsAt counter rest

/-- The law of the commit log (R142), with the room a commit past its refusal test has (R128). -/
structure State.LogLaw (s : State) : Prop where
  /-- The log holds at most 16 records (R142). -/
  cap : s.tool.log.length ≤ Config.commitLogCap
  /-- A commit past its refusal test finds room for its record (R128). -/
  room : s.begun .commit = true → s.tool.log.length < Config.commitLogCap
  /-- The sequence numbers are consecutive and end at the counter (R141, R142). -/
  consecutive : sequenceEndsAt s.tool.sequence s.tool.log

/-! ## The link receiver (R28, R34, R39, R43) -/

/-- The law of the link receiver. -/
structure State.LinkLaw (s : State) : Prop where
  /-- In BODY between one and six bytes are held (R28). -/
  held : ∀ l t, s.link.assembler = .body l t → 1 ≤ l.length ∧ l.length ≤ 6
  /-- The recovery run is below 64, and 0 whenever the link is not OFFLINE (R34). -/
  run : s.link.run.toNat < Config.recoveryRun ∧ (s.link.state ≠ .offline → s.link.run = 0)
  /-- With the condition IN F is valid, and with NONE it is not (R39). -/
  valid : (s.link.condition = .inside → s.link.fValid = true) ∧ (s.link.condition = .none → s.link.fValid = false)
  /-- A condition other than NONE has the active device PRESENT (R39). -/
  device : s.link.condition ≠ .none → s.link.presence[s.active.device].isPresent = true
  /-- The button event queue holds at most 4 entries, each with a button (R43). -/
  queue : s.link.queue.length ≤ Config.buttonQueueCap ∧ ∀ e ∈ s.link.queue, e.buttons ≠ 0

/-! ## Settings and view (R8, R186) -/

/-- A 16-bit value lies in lo..hi. -/
def inRange (lo hi : Nat) (v : Half) : Prop := lo ≤ v.toNat ∧ v.toNat ≤ hi

/-- A menu window's settings are in their ranges (R46, R186). -/
structure MenuWindow.Legal (w : MenuWindow) : Prop where
  mode : inRange 0 3 w.mode
  x0 : inRange 0 16383 w.x0
  y0 : inRange 0 16383 w.y0
  width : inRange 8 2048 w.width
  height : inRange 8 2048 w.height
  columns : inRange 1 16 w.columns
  rows : inRange 1 16 w.rows

/-- Every value of a set of settings is in its range (R186). -/
structure Settings.Legal (st : Settings) : Prop where
  originX : inRange 0 16383 st.originX
  originY : inRange 0 16383 st.originY
  gainX : inRange 1 65535 st.gainX
  gainY : inRange 1 65535 st.gainY
  holdBand : inRange 0 7 st.holdBand
  debounce : inRange 0 15 st.debounce
  activeDevice : inRange 0 7 st.activeDevice
  presenceTimeout : inRange 1 16 st.presenceTimeout
  linkRate : inRange 0 3 st.linkRate
  tool : inRange 0 5 st.tool
  constraint : inRange 0 2 st.constraint
  closeHint : inRange 0 1 st.closeHint
  enables : inRange 0 127 st.enables
  aperture : inRange 1 63 st.aperture
  release : inRange 1 4 st.release
  showAperture : inRange 0 1 st.showAperture
  crosshair : inRange 0 1 st.crosshair
  arm : inRange 4 255 st.arm
  marker : inRange 2 15 st.marker
  chords : st.chords = 16 ∨ st.chords = 32 ∨ st.chords = 64
  learnCap : inRange 0 32 st.learnCap
  gridX : inWorld st.gridX.toInt = true
  gridY : inWorld st.gridY.toInt = true
  filters : ∀ n : Fin 4, inRange 0 1 (st.filters[n]).enable
  windowA : st.windowA.Legal
  windowB : st.windowB.Legal

/-- A view in force has its fields in their ranges (R8). -/
structure View.Legal (v : View) : Prop where
  origin : inWorld v.ox = true ∧ inWorld v.oy = true
  scale : 1 ≤ v.scale ∧ v.scale ≤ Config.scaleMax
  width : 1 ≤ v.width ∧ v.width ≤ Config.displayMax
  height : 1 ≤ v.height ∧ v.height ≤ Config.displayMax

/-- The bits of the level notices are not among the raised event flags (R188, R189). -/
def State.NoticeLaw (s : State) : Prop :=
  s.appNotices.raised.getLsbD 0 = false ∧ s.appNotices.raised.getLsbD 1 = false

/-! ## The frame banks (R154, R164, R167) -/

/-- The number of banks in a state. -/
def countBanks (banks : Vector Bank 3) (st : BankState) : Nat := banks.toList.countP fun b => b.state == st

/-- The law of the banks and of the stream (R164, R167). -/
structure Builder.BanksLaw (b : Builder) : Prop where
  /-- Exactly one bank is SHOWN (R164). -/
  shown : countBanks b.banks .shown = 1
  /-- At most one bank is READY (R164). -/
  ready : countBanks b.banks .ready ≤ 1
  /-- The BUILDING bank is that of the build in flight (R148, R164). -/
  building : ∀ i : Fin 3, (b.banks[i]).state = .building ↔ b.build.map Build.bank = some i
  /-- The stream read pointer names a word of the SHOWN bank, or the place after its last word (R167). -/
  stream : b.streamPtr ≤ (shownWords b).length

/-- Entries form a finished picture: HEADER, CURSOR_INFO, strokes, one END at the last place (R154). -/
def finished (entries : List Entry) : Prop :=
  ∃ h p f rest, entries = [.header h, .cursorInfo p f] ++ rest ++ [.endMark] ∧
    ∀ e ∈ rest, ∃ q style layer, e = .move q style layer ∨ e = .draw q style layer

/-- The law of the banks' contents (R154): a READY or SHOWN bank holds a finished picture of at most 151 entries. -/
def Builder.PictureLaw (b : Builder) : Prop :=
  ∀ i : Fin 3, (b.banks[i]).state = .ready ∨ (b.banks[i]).state = .shown →
    finished (upToEnd (b.banks[i]).entries) ∧ (upToEnd (b.banks[i]).entries).length ≤ 151

/-- The snapshot of a build in flight was taken from legal settings, a legal view and a lawful tool unit (R150). -/
def Builder.SnapshotLaw (b : Builder) : Prop :=
  ∀ build, b.build = some build →
    build.snapshot.settings.Legal ∧ build.snapshot.view.Legal ∧
      build.snapshot.drag.figure.length ≤ Config.dragCap

end Sys2Proof.Machine
end

