-- ==== Sys2Proof/Certificates/Slice0/Obligations.lean ====
section
/-! DEFINITION. The statements for the provers. Each is `def Obligations.<Name> : Prop`; its docstring names the rule or the
section of spec/ it formalises. `t = { s with … }` says that every piece of state not named keeps its value. -/

open Sys2Proof Sys2Proof.Machine

namespace Sys2Proof.Claims

/-! ## Words the statements share -/

/-- A 14-bit notice word with the given bits (R188). -/
def noticeBits (l : List (Bool × AppNotice)) : BitVec 14 :=
  l.foldl (fun w p => if p.1 then w ||| oneBit 14 p.2.bit else w) 0

/-- The application port's raw flags with some notices raised (R188). -/
def raised (u : NoticeUnit 14) (l : List (Bool × AppNotice)) : NoticeUnit 14 :=
  { u with raised := u.raised ||| noticeBits l }

/-- The counter after a frame error (R32). -/
def afterError (errors : BitVec 8) : BitVec 8 := BitVec.ofNat 8 (min 255 (errors.toNat + 8))

/-- The counter and the run after a good frame (R32, R34). -/
def afterGood (l : Link) : BitVec 8 × BitVec 7 :=
  if l.state = .offline then if l.run.toNat = 63 then (0, 0) else (l.errors, l.run + 1)
  else (BitVec.ofNat 8 (l.errors.toNat - 1), 0)

/-- The state after the counter and the run took new values (R33): LINK_STATE and a request for a rebuild at a change of
link state, LINK_WARN at a rise from below 96 to 96 or more. -/
def withHealth (errors : BitVec 8) (run : BitVec 7) (s : State) : State :=
  let changed := linkStateOf errors != linkStateOf s.link.errors
  { s with
    link := { s.link with errors := errors, run := run }
    appNotices :=
      raised s.appNotices
        [(changed, .linkState), (decide (s.link.errors.toNat < 96 ∧ 96 ≤ errors.toNat), .linkWarn)]
    builder := { s.builder with rebuild := s.builder.rebuild || changed } }

/-- Bytes 0 to 5 held and byte 6 arriving make a good frame (R26, R28). -/
def GoodFrame (s : State) (b0 b1 b2 b3 b4 b5 b6 : Byte) : Prop :=
  (∃ g, s.link.assembler = .body [b0, b1, b2, b3, b4, b5] g) ∧ b6.toNat < 128 ∧
    b6.toNat = (b0.toNat + b1.toNat + b2.toNat + b3.toNat + b4.toNat + b5.toNat) % 128

/-- The device number that byte 0 names: bits 6..4 (R191). -/
def deviceOf (b0 : Byte) : Nat := b0.toNat / 16 % 8

/-- The proximity bit of byte 0: bit 3 (R191). -/
def inProximity (b0 : Byte) : Prop := b0.toNat / 8 % 2 = 1

/-- Nothing else competes for the outcome of a step: the engine is in RUN, no apply is pending, no request and no drag
cell waits. -/
def Quiet (s : State) : Prop :=
  s.engine = .run ∧ s.applyPending = false ∧ (∀ r, s.arbiter.waiting.get r = false) ∧
    ∀ c, s.stage ≠ some (.waiting c)

/-- The button event queue after one button of its oldest entry was handled (R126). -/
def handled (button : Nat) : List QueueEntry → List QueueEntry
  | [] => []
  | e :: rest =>
    if e.buttons &&& ~~~ BitVec.ofNat 4 (2 ^ button) = 0 then rest
    else { e with buttons := e.buttons &&& ~~~ BitVec.ofNat 4 (2 ^ button) } :: rest

/-- The button numbers (section 7.2). -/
def buttonNumber : ButtonName → Nat
  | .place => 0
  | .finish => 1
  | .cancel => 2
  | .aux => 3

/-- The cyclic successor BUILD, UPDATE, PICK0, PICK1, BUILD (R76). -/
def turnAfter : Turn → Turn
  | .build => .update
  | .update => .pick0
  | .pick0 => .pick1
  | .pick1 => .build

/-- How many places of the cyclic order lie from the round-robin position to a requester, 1 to 4 (R76). -/
def distance (position goal : Turn) : Nat :=
  if turnAfter position = goal then 1
  else if turnAfter (turnAfter position) = goal then 2
  else if turnAfter (turnAfter (turnAfter position)) = goal then 3
  else 4

/-- Commands executed one after the other; none if one of them stopped. -/
def runAll : List Instr → State → Option State
  | [], s => some s
  | c :: rest, s =>
    match exec c s with
    | .next t => runAll rest t
    | .fault _ => none
    | .refused _ => none

end Sys2Proof.Claims

open Sys2Proof.Claims

/-! ## The machine as a whole -/

/-- A step executes the command at the front of the queue on the state with the queue's rest. On an empty queue the
engine idles: that clause is the model's choice (log 2). -/
def Obligations.StepRunsTheFrontCommand : Prop :=
  (∀ (c : Instr) (rest : List Instr) (s : State),
    step { s with pending := c :: rest } = exec c { s with pending := rest }) ∧
  ∀ s : State, s.pending = [] → step s = .next s

/-- Every command completes from every state, and no command touches the queue: the spec gives the engine no command
that stops it, and an event whose condition does not hold leaves the state as it is (log 3). -/
def Obligations.EveryCommandCompletes : Prop :=
  ∀ (c : Instr) (s : State), ∃ t, exec c s = .next t ∧ t.pending = s.pending

/-- POWER_ON (R190 and the reset tables of chapters 2 to 10): every block at its reset value, both notice lines
deasserted. -/
def Obligations.PowerOnSetsEveryResetValue : Prop :=
  ∀ s : State, ∃ t, exec .powerOn s = .next t ∧
    t.engine = .run ∧ t.applyPending = false ∧
    t.appNotices = ⟨0, 0⟩ ∧ t.dispNotices = ⟨0, 0⟩ ∧ appRaw t = 0 ∧ appLine t = false ∧ dispLine t = false ∧
    t.link.assembler = .hunt ∧ t.link.errors = 0 ∧ t.link.state = .tracking ∧ t.link.run = 0 ∧
    (∀ n : Fin 8, t.link.presence[n] = .absent) ∧ t.link.condition = .none ∧ t.link.f = ⟨0, 0⟩ ∧
    t.link.fValid = false ∧ t.link.rawLatch = ⟨0, 0⟩ ∧ t.link.report = 0 ∧
    (∀ n : Fin 4, t.link.buttons[n] = ⟨false, none⟩) ∧ t.link.queue = [] ∧
    (∀ n : SlotNo, t.table.slots[n] = ⟨0, none⟩) ∧ t.table.originX = -32768 ∧ t.table.originY = -32768 ∧
    t.table.k = 12 ∧ (∀ b : BinNo, t.table.bins[b] = []) ∧ t.table.freeRefs = 2048 ∧ t.table.wide = [] ∧
    t.table.learned = [] ∧ t.table.generation = 0 ∧
    t.arbiter.holder = none ∧ (∀ r, t.arbiter.waiting.get r = false) ∧ t.arbiter.turn = .pick1 ∧
    t.update.inFlight = none ∧ t.update.waiting = none ∧ t.update.teardown = false ∧ t.update.submitLo = 0 ∧
    t.update.lastSerial = 0 ∧ t.update.done = 0 ∧ t.update.record = ⟨⟨0, 0⟩, .none, 0, 0⟩ ∧
    t.resolver = ⟨none, false, none⟩ ∧
    t.tool = ⟨⟨0, none, none⟩, ⟨none, []⟩, none, [], 0⟩ ∧
    t.builder.rebuild = false ∧ t.builder.build = none ∧ t.builder.counter = 0 ∧ t.builder.lastDrawing = none ∧
    t.builder.view = ⟨0, 0, 256, 4096, 4096⟩ ∧ t.builder.staged = ⟨0, 0, 256, 4096, 4096⟩ ∧
    t.builder.stagedWritten = false ∧ t.builder.viewGen = 0 ∧ t.builder.streamPtr = 0 ∧
    t.builder.banks[0] = ⟨.shown,
      [.header ⟨0, 0, 0, 0, true, .tracking, none, false, false⟩, .cursorInfo ⟨0, 0⟩ .none, .endMark]⟩ ∧
    (t.builder.banks[1]).state = .free ∧ (t.builder.banks[2]).state = .free ∧
    (∀ i, t.pick i = ⟨0, 0, 1, 0, 0, 0, 0x0F, .idle, false, none, .none, 0, ⟨0, 0⟩, false, false⟩) ∧
    t.ports.appIndex = 0 ∧ t.ports.dispIndex = 0 ∧ t.ports.latch = none ∧
    t.staged = t.active ∧ t.active.gainX = 16384 ∧ t.active.gainY = 16384 ∧ t.active.holdBand = 1 ∧
    t.active.debounce = 5 ∧ t.active.activeDevice = 0 ∧ t.active.presenceTimeout = 5 ∧ t.active.linkRate = 1 ∧
    t.active.tool = 0 ∧ t.active.constraint = 0 ∧ t.active.enables = 0x4F ∧ t.active.aperture = 8 ∧
    t.active.release = 2 ∧ t.active.arm = 16 ∧ t.active.marker = 4 ∧ t.active.chords = 32 ∧
    t.active.learnCap = 16 ∧ t.active.learnTag = 0xFF00 ∧ t.active.pitchX = 100 ∧ t.active.pitchY = 100 ∧
    t.active.originX = 0 ∧ t.active.originY = 0 ∧ t.active.closeHint = 0 ∧ t.active.showAperture = 0 ∧
    t.active.crosshair = 0 ∧ t.active.gridX = 0 ∧ t.active.gridY = 0 ∧
    (∀ n : Fin 4, t.active.filters[n] = ⟨if n = 0 then 1 else 0, 0, 0⟩) ∧
    t.active.windowA = ⟨0, 0, 0, 8, 8, 1, 1⟩ ∧ t.active.windowB = ⟨0, 0, 0, 8, 8, 1, 1⟩

/-- The laws of the state hold after power-on. -/
def Obligations.PowerOnStateMeetsEveryLaw : Prop :=
  State.reset.GrantLaw ∧ State.reset.UpdateLaw ∧ State.reset.TableLaw ∧ State.reset.ToolLaw ∧ State.reset.LogLaw ∧
    State.reset.LinkLaw ∧ State.reset.active.Legal ∧ State.reset.builder.view.Legal ∧
    State.reset.builder.BanksLaw ∧ State.reset.builder.PictureLaw ∧ State.reset.builder.SnapshotLaw ∧
    State.reset.NoticeLaw ∧ State.reset.RangeLaw

/-! ## Laws that every step keeps -/

/-- The arbiter's law (R75 to R77, R99, R114): a grant and a request always belong to one outstanding operation, and
the table is free only while nobody waits. That a grant is made in the step that requests or releases, that a cell
enters APPLYING and a pick slot SEARCHING with it, and that a commit and a build begin later is log 4. -/
def Obligations.EveryStepKeepsTheGrantLaw : Prop :=
  ∀ s t : State, s.GrantLaw → step s = .next t → t.GrantLaw

/-- The update engine's law and that of a reset in progress (R82, R83, R90, R93, R96, R114, R145, R183): a commit that
runs on has its press out of the queue and the capture's emptying waiting, and with no commit left anchors, figure,
base, log and capture are cleared. That a list or a commit is outstanding in RESETTING, and that such a commit
has its resolution in progress, rests on logs 10 and 11. -/
def Obligations.EveryStepKeepsTheUpdateLaw : Prop :=
  ∀ s t : State, s.GrantLaw → s.UpdateLaw → step s = .next t → t.UpdateLaw

/-- The table's laws (R55, R59, R60, R70): every occupied slot entered in the wide list or once in each bin its box
overlaps, no free slot entered, 2048 references, the learned list exact, apart and within LEARN_CAP. And the law of
the world range (R1, R6, R24, R55): in it lie the coordinates of every target, anchor, base, record and result, of the
bin window's and the current view's origin, and of every frame bank entry; and the drag figure's offsets lie in
theirs. -/
def Obligations.EveryStepKeepsTheTableLaw : Prop :=
  ∀ s t : State, step s = .next t → (s.TableLaw → t.TableLaw) ∧ (s.RangeLaw → t.RangeLaw)

/-- The laws of the tool context and of the drag figure (R123, R125), of the commit log (R128, R141, R142) and of
the link receiver (R28, R34, R39, R43). -/
def Obligations.EveryStepKeepsToolLogAndLinkLaws : Prop :=
  ∀ s t : State, step s = .next t →
    (s.ToolLaw → t.ToolLaw) ∧ (s.LogLaw → t.LogLaw) ∧ (s.LinkLaw → t.LinkLaw)

/-- Active settings and current view stay in their ranges (R8, R166, R186), and the raised event flags never include
the bits of the level notices (R188, R189). -/
def Obligations.EveryStepKeepsSettingsViewAndNotices : Prop :=
  ∀ s t : State, step s = .next t →
    (s.active.Legal → t.active.Legal) ∧ (s.builder.view.Legal → t.builder.view.Legal) ∧
      (s.NoticeLaw → t.NoticeLaw)

/-- The law of the frame banks and of the stream (R164, R167). -/
def Obligations.EveryStepKeepsTheBanksLaw : Prop :=
  ∀ s t : State, s.builder.BanksLaw → step s = .next t → t.builder.BanksLaw

/-- Every READY or SHOWN bank holds a finished picture of at most 151 entries (R154). -/
def Obligations.EveryStepKeepsThePictureLaw : Prop :=
  ∀ s t : State, s.builder.BanksLaw → s.builder.PictureLaw → s.builder.SnapshotLaw → s.ToolLaw → s.active.Legal →
    s.builder.view.Legal → step s = .next t → t.builder.PictureLaw ∧ t.builder.SnapshotLaw

/-- The contents of a SHOWN or READY bank do not change: builds write only the BUILDING bank (R164), whatever the
command but POWER_ON. -/
def Obligations.ShownBankStaysAsItIs : Prop :=
  ∀ (c : Instr) (s t : State) (i : Fin 3), c ≠ .powerOn → s.builder.BanksLaw → exec c s = .next t →
    (s.builder.banks[i]).state = .shown ∨ (s.builder.banks[i]).state = .ready →
    (t.builder.banks[i]).entries = (s.builder.banks[i]).entries

/-- While a pick slot's GO is set its input fields do not change (R171, R174), whatever the command but POWER_ON. -/
def Obligations.BusyPickSlotKeepsItsInputs : Prop :=
  ∀ (c : Instr) (s t : State) (i : PickId), c ≠ .powerOn → exec c s = .next t → (s.pick i).control ≠ .idle →
    (t.pick i).x = (s.pick i).x ∧ (t.pick i).y = (s.pick i).y ∧ (t.pick i).aperture = (s.pick i).aperture ∧
      (t.pick i).choice = (s.pick i).choice ∧ (t.pick i).mask = (s.pick i).mask ∧
      (t.pick i).matchTag = (s.pick i).matchTag ∧ (t.pick i).enables = (s.pick i).enables

/-- The blocks read the active settings, and only the taking of an apply changes them (R184, R185): a step that
leaves the active set different found apply pending, and left it clear, with SETTINGS_APPLIED raised. -/
def Obligations.OnlyAnApplyChangesActiveSettings : Prop :=
  ∀ (c : Instr) (s t : State), c ≠ .powerOn → exec c s = .next t → t.active ≠ s.active →
    s.applyPending = true ∧ t.applyPending = false ∧ t.active = s.staged.clamped s.active.tool ∧
      t.appNotices.raised.getLsbD 11 = true

/-- Every reset ends (R96, R145, R183): from any lawful state in RESETTING, the completions that the stages await
bring the engine back to RUN, whatever the memory bus answers, with the lists dropped, no commit left, anchors, figure
and base cleared, the log and the capture empty. The order of a reset's outstanding halves is the model's (log 11). -/
def Obligations.EveryResetReturnsToRun : Prop :=
  ∀ (s : State) (reply : FetchReply) (e1 e2 e3 : Bool), s.GrantLaw → s.UpdateLaw → s.engine = .resetting →
    ∃ t, runAll [.resolutionEnd, .cellApplication, .fetchCompletion reply, .writeBackCompletion e1 e2,
      .markingCompletion e3] s = some t ∧ t.engine = .run ∧ t.update.inFlight = none ∧ t.tool.commit = none ∧
        t.appNotices.raised.getLsbD 13 = true ∧ t.tool.context = ⟨0, none, none⟩ ∧ t.tool.drag = ⟨none, []⟩ ∧
        t.tool.log = [] ∧ t.resolver.capture = none

/-! ## The tablet line (chapter 2) -/

/-- Bytes that end no frame (R27, R28, R30): in HUNT a faulty byte or one with bit 7 equal to 0 is discarded and
changes nothing, and a sound marker byte with good reserved bits becomes byte 0; in BODY a sound byte with bit 7
equal to 0 before byte 6, with good reserved bits where it has them, is held; each byte taken restarts the gap
timer. Times are in µs (log 1). -/
def Obligations.SoundBytesAreTakenIntoTheFrame : Prop :=
  ∀ (time : Nat) (b : Byte) (s : State),
    (s.link.assembler = .hunt →
      (∀ sound, sound = false ∨ b.toNat < 128 → exec (.byteArrival time sound b) s = .next s) ∧
      (128 ≤ b.toNat → b.toNat % 8 = 0 → exec (.byteArrival time true b) s =
        .next { s with link := { s.link with assembler := .body [b] (time + 4000) } })) ∧
    ∀ held gapAt, s.link.assembler = .body held gapAt → 1 ≤ held.length → held.length ≤ 5 → b.toNat < 128 →
      (held.length = 1 → b.toNat / 16 = 0) →
      exec (.byteArrival time true b) s =
        .next { s with link := { s.link with assembler := .body (held ++ [b]) (time + 4000) } }

/-- The frame errors (R27 to R30, R32 to R34): bad reserved bits in a marker byte in HUNT, a faulty byte in BODY, bad
reserved bits in byte 1, a check mismatch at byte 6 and the expiry of the gap timer each raise the counter by 8 with
ceiling 255, clear the run and return the assembler to HUNT; LINK_STATE, LINK_WARN and the request for a rebuild
follow R33, whose thresholds are 128 and 255; nothing else changes. A marker byte inside a frame is one error and byte
0 of a new frame, or two errors. Before its time and in HUNT, GAP_EXPIRY is no event (log 1). -/
def Obligations.FrameErrorRaisesTheCounter : Prop :=
  (∀ errors : BitVec 8, linkStateOf errors =
    if errors.toNat < 128 then .tracking else if errors.toNat < 255 then .degraded else .offline) ∧
  ∀ (time : Nat) (b : Byte) (s : State),
    let hunting := { s with link := { s.link with assembler := .hunt } }
    let once := withHealth (afterError s.link.errors) 0 hunting
    (s.link.assembler = .hunt → exec (.gapExpiry time) s = .next s ∧
      (128 ≤ b.toNat → b.toNat % 8 ≠ 0 → exec (.byteArrival time true b) s = .next once)) ∧
    ∀ held gapAt, s.link.assembler = .body held gapAt →
      exec (.byteArrival time false b) s = .next once ∧
      (held.length = 1 → b.toNat < 128 → b.toNat / 16 ≠ 0 → exec (.byteArrival time true b) s = .next once) ∧
      (held.length = 6 → b.toNat < 128 → b.toNat ≠ (held.map BitVec.toNat).sum % 128 →
        exec (.byteArrival time true b) s = .next once) ∧
      (gapAt ≤ time → exec (.gapExpiry time) s = .next once) ∧
      (time < gapAt → exec (.gapExpiry time) s = .next s) ∧
      (128 ≤ b.toNat → b.toNat % 8 = 0 → exec (.byteArrival time true b) s =
        .next { once with link := { once.link with assembler := .body [b] (time + 4000) } }) ∧
      (128 ≤ b.toNat → b.toNat % 8 ≠ 0 →
        exec (.byteArrival time true b) s = .next (withHealth (afterError once.link.errors) 0 once))

/-- A good frame (R28, R32, R34, R36, R38): health and presence take it whatever its device; when it does not come
from the active device, or the link is OFFLINE after its own count, it reaches nothing else. Times are in µs (log
1). -/
def Obligations.UnusedFrameReachesHealthAndPresence : Prop :=
  ∀ (time : Nat) (b0 b1 b2 b3 b4 b5 b6 : Byte) (s : State), GoodFrame s b0 b1 b2 b3 b4 b5 b6 →
    let health := afterGood s.link
    let device : Fin 8 := ⟨deviceOf b0, Nat.mod_lt _ (by decide)⟩
    let s1 := withHealth health.1 health.2 { s with link := { s.link with assembler := .hunt } }
    let arrived := decide (device = s.active.device ∧ s.link.presence[device] = .absent)
    device ≠ s.active.device ∨ linkStateOf health.1 = .offline →
    exec (.byteArrival time true b6) s = .next
      { s1 with
        link := { s1.link with
          presence := s1.link.presence.set device
            (.present (time + s.active.presenceTimeout.toNat * 50000)) }
        appNotices := raised s1.appNotices [(arrived, .presenceChange)]
        builder := { s1.builder with rebuild := s1.builder.rebuild || arrived } }

/-- A used frame (R32 to R34, R36 to R40): a good frame of the active device, which its setting names, under TRACKING
or DEGRADED takes the next report number; out of proximity it makes the condition OUT and leaves F, the raw latch and
the buttons; in proximity it makes the condition IN, latches R, and seeds F with R or moves it by the hold band
(widened by 4 in DEGRADED) on each axis; health and presence act first, and a change of F or of the condition requests
a rebuild. Times are in µs (log 1). -/
def Obligations.UsedFrameMovesTheCursor : Prop :=
  (∀ st : Settings, st.activeDevice.toNat < 8 → st.device.val = st.activeDevice.toNat) ∧
  ∀ (time : Nat) (b0 b1 b2 b3 b4 b5 b6 : Byte) (s : State), GoodFrame s b0 b1 b2 b3 b4 b5 b6 →
    deviceOf b0 = s.active.device.val → linkStateOf (afterGood s.link).1 ≠ .offline →
    ∃ t, exec (.byteArrival time true b6) s = .next t ∧ t.link.report = s.link.report + 1 ∧
      t.link.errors = (afterGood s.link).1 ∧ t.link.run = (afterGood s.link).2 ∧ t.link.assembler = .hunt ∧
      t = { s with link := t.link, appNotices := t.appNotices,
                   builder := { s.builder with rebuild := t.builder.rebuild } } ∧
      t.link.presence = s.link.presence.set s.active.device
        (.present (time + s.active.presenceTimeout.toNat * 50000)) ∧
      (let health := withHealth (afterGood s.link).1 (afterGood s.link).2 s
       let arrived := decide (s.link.presence[s.active.device] = .absent)
       t.builder.rebuild = (health.builder.rebuild || arrived || t.link.condition != s.link.condition ||
          t.link.f != s.link.f) ∧
        ∃ overrun, (¬ inProximity b0 → overrun = false) ∧ t.appNotices =
          raised health.appNotices [(arrived, .presenceChange), (overrun, .buttonOverrun)]) ∧
      (¬ inProximity b0 → t.link.condition = .out ∧ t.link.f = s.link.f ∧ t.link.fValid = s.link.fValid ∧
        t.link.rawLatch = s.link.rawLatch ∧ t.link.buttons = s.link.buttons ∧ t.link.queue = s.link.queue) ∧
      (inProximity b0 → t.link.condition = .inside ∧ t.link.fValid = true ∧
        (t.link.rawLatch.x.toNat : Int) = 128 * (b2.toNat % 128) + b3.toNat % 128 ∧
        (t.link.rawLatch.y.toNat : Int) = 128 * (b4.toNat % 128) + b5.toNat % 128 ∧
        (s.link.condition ≠ .inside → t.link.f = t.link.rawLatch) ∧
        (s.link.condition = .inside →
          ∀ axis ∈ [TabletPoint.x, TabletPoint.y],
            let h : Int := s.active.holdBand.toNat + if t.link.state = .degraded then 4 else 0
            let r : Int := (axis t.link.rawLatch).toNat
            let f : Int := (axis s.link.f).toNat
            let f' : Int := (axis t.link.f).toNat
            (h < r - f → f' = r - h) ∧ (r - f < -h → f' = r + h) ∧ (-h ≤ r - f → r - f ≤ h → f' = f)))

/-- The buttons of an in-proximity used frame (R41, R43): each button's transition is accepted when it has no last
accepted transition or the debounce time has passed; the accepted presses make one entry with F, R and the report
number of the frame, or are dropped with BUTTON_OVERRUN when the queue holds four. Times are in µs (log 1). -/
def Obligations.AcceptedPressesMakeOneEntry : Prop :=
  ∀ (time : Nat) (b0 b1 b2 b3 b4 b5 b6 : Byte) (s t : State), GoodFrame s b0 b1 b2 b3 b4 b5 b6 →
    deviceOf b0 = s.active.device.val → linkStateOf (afterGood s.link).1 ≠ .offline → inProximity b0 →
    exec (.byteArrival time true b6) s = .next t →
    (∀ n : Fin 4,
      let old := s.link.buttons[n]
      let shown := b1.getLsbD n.val
      let accepted : Prop := shown ≠ old.pressed ∧
        ∀ last, old.last = some last → last + s.active.debounce.toNat * 1000 ≤ time
      (accepted → t.link.buttons[n] = ⟨shown, some time⟩) ∧ (¬ accepted → t.link.buttons[n] = old)) ∧
    let presses := pressesBetween s.link.buttons t.link.buttons
    (∀ n : Fin 4, presses.getLsbD n.val = (!(s.link.buttons[n]).pressed && (t.link.buttons[n]).pressed)) ∧
    (presses = 0 → t.link.queue = s.link.queue) ∧
    (presses ≠ 0 → s.link.queue.length < 4 →
      t.link.queue = s.link.queue ++ [⟨presses, t.link.f, t.link.rawLatch, t.link.report⟩]) ∧
    (presses ≠ 0 → 4 ≤ s.link.queue.length →
      t.link.queue = s.link.queue) ∧
    t.appNotices.raised.getLsbD 6 =
      (s.appNotices.raised.getLsbD 6 || (presses != 0 && decide (4 ≤ s.link.queue.length)))

/-- Presence expiry (R36, R37, R39, R42): the device whose timer has run out becomes ABSENT; for the active device
PRESENCE_CHANGE is raised, a rebuild requested, and the condition becomes NONE with F invalid and the accepted
buttons cleared when it was not NONE; for another device nothing else changes. Before its time it is no event (log
1). -/
def Obligations.PresenceExpiryMakesTheDeviceAbsent : Prop :=
  ∀ (time expiresAt : Nat) (device : Fin 8) (s : State), s.link.presence[device] = .present expiresAt →
    (time < expiresAt → exec (.presenceExpiry time device) s = .next s) ∧
    (expiresAt ≤ time → device ≠ s.active.device → exec (.presenceExpiry time device) s =
      .next { s with link := { s.link with presence := s.link.presence.set device .absent } }) ∧
    (expiresAt ≤ time → device = s.active.device → exec (.presenceExpiry time device) s =
      .next { s with
        link := { s.link with
          presence := s.link.presence.set device .absent
          condition := .none
          fValid := false
          buttons := if s.link.condition = .none then s.link.buttons else Vector.replicate 4 ⟨false, none⟩ }
        appNotices := raised s.appNotices [(true, .presenceChange)]
        builder := { s.builder with rebuild := true } })

/-- LINK_RESTART, APPLY and UPDATE_TEARDOWN (R35, R93, R185), in either engine state: counter and run 0 and the
assembler in HUNT, with LINK_STATE and a request for a rebuild when the state was not TRACKING; apply pending;
teardown pending for a list in flight. A write of a code to COMMAND issues its command, and of any other code is
ignored (R182). INDEX stands at COMMAND (log 5); of a value wider than the application port the low 16 bits count
(log 17). -/
def Obligations.CommandsActByTheirCode : Prop :=
  ∀ (s : State) (v : Word),
    let changed := s.link.state != .tracking
    let ports := { s.ports with appIndex := 0 }
    let code := v.toNat % 65536
    exec .linkRestart s = .next { s with
      link := { s.link with errors := 0, run := 0, assembler := .hunt }
      appNotices := raised s.appNotices [(changed, .linkState)]
      builder := { s.builder with rebuild := s.builder.rebuild || changed }
      ports := ports } ∧
    exec .apply s = .next { s with applyPending := true, ports := ports } ∧
    exec .updateTeardown s = .next { s with
      update := { s.update with teardown := s.update.teardown || s.update.inFlight.isSome }, ports := ports } ∧
    (s.ports.appIndex = 0 →
      let write := exec (.registerWrite .app .data v) s
      (code = 1 → write = exec .engineReset s) ∧ (code = 2 → write = exec .linkRestart s) ∧
      (code = 3 → write = exec .apply s) ∧ (code = 4 → write = exec .updateTeardown s) ∧
      (code = 5 → write = exec .updateAck s) ∧ (code = 6 → write = exec (.commitPop .command) s) ∧
      (code = 0 ∨ 6 < code → write = .next s))

/-! ## Commands and settings (chapter 10) -/

/-- ENGINE_RESET taken in RUN (R45, R77, R78, R98, R114, R122, R145, R169, R177, R183, R190): what every block keeps and
what it clears; no request waits after it, the grant of an abandoned operation is released and no other is made, the
round-robin position stays; the emptying of the capture waits while a commit resolves. While RESETTING it is ignored
(R183); INDEX stands at COMMAND (log 5). A commit or a cell granted and not begun gives its grant back (log 10), the
halves that the return to RUN waits for are those of log 11, and that every withdrawal comes before a grant is log
23. -/
def Obligations.EngineResetActsOnEveryBlock : Prop :=
  ∀ s : State, (s.engine = .resetting → exec .engineReset s = .next { s with ports := { s.ports with appIndex := 0 } }) ∧
    (s.GrantLaw → s.engine = .run → ∃ t, exec .engineReset s = .next t ∧
    t.staged = s.staged ∧ t.active = s.active ∧ t.applyPending = s.applyPending ∧ t.table = s.table ∧
    t.link = { s.link with
      condition := .none, fValid := false, buttons := Vector.replicate 4 ⟨false, none⟩, queue := [] } ∧
    t.builder = { s.builder with
      rebuild := true
      banks := s.builder.banks.map fun b =>
        if b.state = .building ∨ b.state = .ready then { b with state := .free } else b
      build := none
      lastDrawing := none } ∧
    (s.begun .commit = false → t.resolver = ⟨none, false, none⟩ ∧ t.tool =
      { s.tool with context := ⟨0, none, none⟩, drag := ⟨none, []⟩, commit := none, log := [] }) ∧
    (∀ c, s.tool.commit = some c → c.resolving = true → t.resolver = { s.resolver with emptying := true } ∧
      t.tool = { s.tool with commit := some { c with queued := false } } ∧ t.engine = .resetting) ∧
    (let atOnce : Prop := s.stage = none ∨ ∃ c, s.stage = some (.waiting c) ∨ s.stage = some (.granted c);
      (atOnce → t.update = { s.update with
        inFlight := none, waiting := none, teardown := false, done := 0, record := ⟨⟨0, 0⟩, .none, 0, 0⟩ }) ∧
      (¬ atOnce → t.update = s.update ∧ t.engine = .resetting) ∧
      (s.begun .commit = false → atOnce → t.engine = .run ∧ t.appNotices.raised.getLsbD 13 = true)) ∧
    (∀ r, t.arbiter.waiting.get r = false) ∧ t.arbiter.turn = s.arbiter.turn ∧
    t.arbiter.holder =
      (if s.begun .commit then some .commit
       else match s.stage with
        | some (.applying _) => some .update
        | _ => none) ∧
    (∀ i, (s.pick i).control = .idle → t.pick i = s.pick i) ∧
    (∀ i, (s.pick i).control ≠ .idle → t.pick i = { s.pick i with
      found := false, handle := none, feature := .none, index := 0, point := ⟨0, 0⟩, aborted := true,
      control := .idle }) ∧
    t.appNotices.enabled = s.appNotices.enabled ∧ t.dispNotices.enabled = s.dispNotices.enabled ∧
    (∀ n : AppNotice, n ≠ .pick0Done → n ≠ .resetDone → t.appNotices.raised.getLsbD n.bit = false) ∧
    (t.appNotices.raised.getLsbD 10 = (s.pick0.control != .idle)) ∧
    (∀ n : DispNotice, t.dispNotices.raised.getLsbD n.bit =
      (s.dispNotices.raised.getLsbD n.bit || (n == .pick1Done && s.pick1.control != .idle))) ∧
    t.ports = { s.ports with appIndex := 0 } ∧ t.masterWrites = s.masterWrites ∧ t.pending = s.pending)

/-- Notices and enables of both ports (R188, R189): each notice has its bit; NOTICE_RAW clears, ENABLE_SET turns on
and ENABLE_CLEAR turns off the bits that are 1 and leaves the others; the notice line is asserted exactly while some
notice is raised and enabled, level notices following their conditions. INDEX stands past the location written (log
5). -/
def Obligations.NoticeRegistersActBitwise : Prop :=
  (∀ e ∈ [(AppNotice.submitRefused, 2), (.busError, 3), (.logFull, 4), (.commitRefused, 5), (.buttonOverrun, 6),
    (.linkWarn, 7), (.linkState, 8), (.presenceChange, 9), (.pick0Done, 10), (.settingsApplied, 11),
    (.settingHeld, 12), (.resetDone, 13)], e.1.bit = e.2) ∧
  (∀ e ∈ [(DispNotice.frameReady, 0), (.pick1Done, 1), (.viewClamped, 2)], e.1.bit = e.2) ∧
  ∀ (s : State) (v : Word),
    (∃ t, exec (.noticeRaw .app v) s = .next t ∧
      t = { s with appNotices := t.appNotices, ports := { s.ports with appIndex := 2 } } ∧
      t.appNotices.enabled = s.appNotices.enabled ∧
      ∀ n : AppNotice, t.appNotices.raised.getLsbD n.bit =
        (s.appNotices.raised.getLsbD n.bit && !v.getLsbD n.bit)) ∧
    (∃ t, exec (.noticeRaw .disp v) s = .next t ∧
      t = { s with dispNotices := t.dispNotices, ports := { s.ports with dispIndex := 1 } } ∧
      t.dispNotices.enabled = s.dispNotices.enabled ∧
      ∀ n : DispNotice, t.dispNotices.raised.getLsbD n.bit =
        (s.dispNotices.raised.getLsbD n.bit && !v.getLsbD n.bit)) ∧
    (∃ t, exec (.enableSet .app v) s = .next t ∧
      t = { s with appNotices := t.appNotices, ports := { s.ports with appIndex := 4 } } ∧
      t.appNotices.raised = s.appNotices.raised ∧
      ∀ n, n < 14 → t.appNotices.enabled.getLsbD n = (s.appNotices.enabled.getLsbD n || v.getLsbD n)) ∧
    (∃ t, exec (.enableSet .disp v) s = .next t ∧
      t = { s with dispNotices := t.dispNotices, ports := { s.ports with dispIndex := 3 } } ∧
      t.dispNotices.raised = s.dispNotices.raised ∧
      ∀ n, n < 3 → t.dispNotices.enabled.getLsbD n = (s.dispNotices.enabled.getLsbD n || v.getLsbD n)) ∧
    (∃ t, exec (.enableClear .app v) s = .next t ∧
      t = { s with appNotices := t.appNotices, ports := { s.ports with appIndex := 5 } } ∧
      t.appNotices.raised = s.appNotices.raised ∧
      ∀ n, n < 14 → t.appNotices.enabled.getLsbD n = (s.appNotices.enabled.getLsbD n && !v.getLsbD n)) ∧
    (∃ t, exec (.enableClear .disp v) s = .next t ∧
      t = { s with dispNotices := t.dispNotices, ports := { s.ports with dispIndex := 4 } } ∧
      t.dispNotices.raised = s.dispNotices.raised ∧
      ∀ n, n < 3 → t.dispNotices.enabled.getLsbD n = (s.dispNotices.enabled.getLsbD n && !v.getLsbD n)) ∧
    (s.NoticeLaw →
      (appLine s = true ↔
        (s.appNotices.enabled.getLsbD 0 = true ∧ 0 < s.update.done.toNat) ∨
        (s.appNotices.enabled.getLsbD 1 = true ∧ s.tool.log ≠ []) ∨
        ∃ n : AppNotice, s.appNotices.enabled.getLsbD n.bit = true ∧ s.appNotices.raised.getLsbD n.bit = true) ∧
      (dispLine s = true ↔
        ∃ n : DispNotice, s.dispNotices.enabled.getLsbD n.bit = true ∧ s.dispNotices.raised.getLsbD n.bit = true))

namespace Sys2Proof.Claims

/-- 1 for true, 0 for false. -/
def flag (b : Bool) : Nat := if b then 1 else 0

/-- A value as the 16 bits of a location. -/
def half16 (n : Nat) : Half := BitVec.ofNat 16 n

/-- A signed value as 32 bits. -/
def word32 (v : Int) : Word := BitVec.ofInt 32 v

/-- A signed value as 32 bits, 0 when absent (R140, R195). -/
def coordinate (axis : Point → Int) (p : Option Point) : Word := word32 ((p.map axis).getD 0)

/-- The 16-bit form of a handle, 0xFFFF when there is none (R192). -/
def handleForm : Option Handle → Half
  | some h => half16 (h.slot.val + 1024 * h.tag.toNat)
  | none => 0xFFFF

/-- The feature codes (R193). -/
def featureNumber (f : Feature) : Nat := [.none, .node, .endPoint, .mid, .center, .quad, .near, .grid].idxOf f

/-- The tool codes (R186). -/
def toolNumber (t : Tool) : Nat := [.none, .line, .polyline, .rect, .circle, .move].idxOf t

/-- The number of a menu window (R193, R194). -/
def windowNumber (w : MenuId) : Nat := [.a, .b].idxOf w

/-- The stage codes (R195). -/
def stageNumber : Option Stage → Nat
  | none => 0
  | some .fetching => 1
  | some (.waiting _) => 2
  | some (.granted _) => 3
  | some (.applying _) => 3
  | some (.writingBack _ _ _) => 4
  | some .marking => 5

/-- A class filter's three locations (R186). -/
def filterPlaces (first : Nat) (f : ClassFilter) : List (Nat × Half) :=
  [(first, f.enable), (first + 1, f.mask), (first + 2, f.matchTag)]

/-- A menu window's seven locations (R186). -/
def windowPlaces (first : Nat) (w : MenuWindow) : List (Nat × Half) :=
  [(first, w.mode), (first + 1, w.x0), (first + 2, w.y0), (first + 3, w.width), (first + 4, w.height),
    (first + 5, w.columns), (first + 6, w.rows)]

/-- The settings that are no half of a pair, each with its place from the start of its block (R186). -/
def settingPlaces (st : Settings) : List (Nat × Half) :=
  [(0x00, st.originX), (0x01, st.originY), (0x02, st.gainX), (0x03, st.gainY), (0x04, st.holdBand),
    (0x05, st.debounce), (0x06, st.activeDevice), (0x07, st.presenceTimeout), (0x08, st.linkRate), (0x09, st.tool),
    (0x0A, st.constraint), (0x0B, st.closeHint), (0x0C, st.enables), (0x0D, st.aperture), (0x0E, st.release),
    (0x0F, st.showAperture), (0x10, st.crosshair), (0x11, st.arm), (0x12, st.marker), (0x13, st.chords),
    (0x14, st.learnCap), (0x15, st.learnTag), (0x16, st.pitchX), (0x17, st.pitchY)]
  ++ filterPlaces 0x20 st.filters[0] ++ filterPlaces 0x23 st.filters[1] ++ filterPlaces 0x26 st.filters[2]
  ++ filterPlaces 0x29 st.filters[3] ++ windowPlaces 0x30 st.windowA ++ windowPlaces 0x38 st.windowB

/-- The halves of the grid origins (R180, R186). -/
def gridHalves (st : Settings) : List (Nat × Half) :=
  [(0x18, st.gridX.extractLsb' 0 16), (0x19, st.gridX.extractLsb' 16 16), (0x1A, st.gridY.extractLsb' 0 16),
    (0x1B, st.gridY.extractLsb' 16 16)]

/-- Places counted from the start of a block. -/
def placedAt (first : Nat) (l : List (Nat × Half)) : List (Nat × Half) := l.map fun e => (first + e.1, e.2)

/-- The locations of the oldest record that are no half of a pair (R143, R194). -/
def recordPlaces : List CommitRecord → List (Nat × Half)
  | [] => [0x050, 0x051, 0x052, 0x057, 0x058, 0x059, 0x05A, 0x05B, 0x05C].map fun n => (n, 0)
  | r :: _ =>
    [(0x050, r.seq),
      (0x051, half16 ([RecordKind.place, .finish, .cancel, .aux, .menuPick].idxOf r.kind + 16 * toolNumber r.tool
        + 256 * flag r.completes + 512 * flag r.learnSkipped)),
      (0x052, half16 (r.count.toNat + 256 * featureNumber r.feature + 4096 * r.index.toNat)),
      (0x057, handleForm r.target), (0x058, handleForm r.learned), (0x059, half16 r.r.x.toNat),
      (0x05A, half16 r.r.y.toNat),
      (0x05B, match r.menu with
        | some m => half16 (windowNumber m.window + 2 * flag m.aux + 256 * m.cell.toNat)
        | none => 0),
      (0x05C, r.report)]

/-- Notices and update engine in the application window (R182, R188, R189, R195). -/
def updatePlaces (s : State) : List (Nat × Half) :=
  let u := s.update
  let raw := s.appNotices.raised.setWidth 16 ||| half16 (flag (u.done != 0) + 2 * flag !s.tool.log.isEmpty)
  [(0x000, half16 (flag (s.engine == .resetting) + 2 * flag s.applyPending)),
    (0x001, raw), (0x002, s.appNotices.enabled.setWidth 16), (0x005, raw &&& s.appNotices.enabled.setWidth 16),
    (0x010, u.submitLo),
    (0x012, half16 (flag u.inFlight.isSome + 2 * flag u.waiting.isSome
      + 4 * flag (u.inFlight.isSome && u.waiting.isSome) + 8 * flag u.teardown
      + 16 * stageNumber (u.inFlight.map InFlight.stage))),
    (0x013, half16 (u.lastSerial.toNat + 256 * ((u.inFlight.map fun f => f.list.serial.toNat).getD 0))),
    (0x014, half16 (((u.waiting.map fun l => l.serial.toNat).getD 0) + 256 * u.done.toNat)),
    (0x019, half16 (u.record.list.serial.toNat
      + 256 * [ListStatus.none, .complete, .stoppedUnowned, .badLink, .busError, .tornDown, .discarded].idxOf
          u.record.status))]

/-- Link, table, arbiter, capture and tool unit in the application window (R195). The order of the waiting bits of 0x039
is log 25, the index bits of 0x03B for an empty capture log 26. -/
def linkPlaces (s : State) : List (Nat × Half) :=
  let l := s.link
  let a := s.arbiter
  [(0x020, half16 (l.errors.toNat + 256 * [LinkState.tracking, .degraded, .offline].idxOf l.state
      + 1024 * flag (l.assembler != .hunt))),
    (0x021, half16 (l.run.toNat
      + 256 * ((List.finRange 8).map fun n => if l.presence[n] = .absent then 0 else 2 ^ n.val).sum)),
    (0x022, half16 ([CursorCondition.none, .out, .inside].idxOf l.condition + 16 * l.queue.length)),
    (0x023, half16 l.f.x.toNat), (0x024, half16 l.f.y.toNat), (0x025, half16 l.rawLatch.x.toNat),
    (0x026, half16 l.rawLatch.y.toNat), (0x027, l.report),
    (0x030, half16 ((List.finRange 1024).filter fun n => (s.table.target n).isSome).length),
    (0x031, half16 s.table.freeRefs), (0x032, half16 (s.table.wide.length + 256 * s.table.learned.length)),
    (0x033, s.table.generation), (0x038, half16 s.table.k),
    (0x039, half16 ([none, some Requester.commit, some .build, some .update, some .pick0, some .pick1].idxOf a.holder
      + 256 * flag a.waiting.commit + 128 * flag a.waiting.build + 64 * flag a.waiting.update
      + 32 * flag a.waiting.pick0 + 16 * flag a.waiting.pick1
      + 4096 * [Turn.build, .update, .pick0, .pick1].idxOf a.turn)),
    (0x03A, handleForm (s.resolver.capture.map FeatureRef.handle)),
    (0x03B, match s.resolver.capture with
      | some ref => half16 (featureNumber ref.feature + 16 * ref.index.toNat)
      | none => 0),
    (0x040, half16 (toolNumber s.active.toolInForce + 256 * s.tool.context.count.toNat)),
    (0x049, half16 (flag s.tool.drag.base.isSome + 256 * s.tool.drag.figure.length)),
    (0x04E, s.tool.sequence), (0x04F, half16 s.tool.log.length)]

/-- GO of a slot as it reads (R171, R195, R196). -/
def goForm (p : PickSlot) : Nat := flag (p.control != .idle) + 2 * flag (p.control == .searching)

/-- The results of a slot as they read (R195, R196). -/
def resultForm (p : PickSlot) : Nat :=
  flag p.found + 2 * flag p.aborted + 4 * flag p.blocked + 16 * featureNumber p.feature + 256 * p.index.toNat

/-- The map of the application window, but for the pairs: each readable location with its value (R194, R195). -/
def appPlaces (s : State) : List (Nat × Half) :=
  updatePlaces s ++ linkPlaces s ++ recordPlaces s.tool.log
  ++ [(0x064, s.pick0.aperture.extractLsb' 0 16), (0x065, s.pick0.choice.extractLsb' 0 16), (0x066, s.pick0.mask),
    (0x067, s.pick0.matchTag), (0x068, half16 s.pick0.enables.toNat), (0x069, half16 (goForm s.pick0)),
    (0x06A, half16 (resultForm s.pick0)), (0x06B, handleForm s.pick0.handle)]
  ++ placedAt 0x080 (settingPlaces s.staged) ++ placedAt 0x180 (settingPlaces s.active)

/-- The pairs of the application window, each by its low location (R180, R194, R195). -/
def appPairs (s : State) : List (Nat × Word) :=
  let u := s.update
  let point := s.tool.log.head?.bind CommitRecord.s
  [(0x015, (u.inFlight.map InFlight.cell).getD 0), (0x017, (u.inFlight.map InFlight.applied).getD 0),
    (0x01A, u.record.list.head), (0x01C, u.record.applied), (0x01E, u.record.lastCell),
    (0x034, word32 s.table.originX), (0x036, word32 s.table.originY),
    (0x041, coordinate Point.x s.tool.context.first), (0x043, coordinate Point.y s.tool.context.first),
    (0x045, coordinate Point.x s.tool.context.last), (0x047, coordinate Point.y s.tool.context.last),
    (0x04A, coordinate Point.x s.tool.drag.base), (0x04C, coordinate Point.y s.tool.drag.base),
    (0x053, coordinate Point.x point), (0x055, coordinate Point.y point),
    (0x060, s.pick0.x), (0x062, s.pick0.y), (0x06C, word32 s.pick0.point.x), (0x06E, word32 s.pick0.point.y),
    (0x098, s.staged.gridX), (0x09A, s.staged.gridY), (0x198, s.active.gridX), (0x19A, s.active.gridY)]

/-- The build number of the SHOWN bank's HEADER (R164, R196). -/
def shownNumber (b : Builder) : Nat :=
  match (b.banks.toList.find? fun bank => bank.state == .shown).map Bank.entries with
  | some (.header h :: _) => h.build.toNat
  | _ => 0

/-- The map of the display window, but for STREAM (R196). -/
def dispPlaces (s : State) : List (Nat × Word) :=
  let b := s.builder
  let bank := fun i : Fin 3 => [BankState.free, .building, .ready, .shown].idxOf (b.banks[i]).state
  let p := s.pick1
  [(0x00, s.dispNotices.raised.setWidth 32), (0x01, s.dispNotices.enabled.setWidth 32),
    (0x04, (s.dispNotices.raised &&& s.dispNotices.enabled).setWidth 32), (0x0B, BitVec.ofNat 32 b.streamPtr),
    (0x0C, BitVec.ofNat 32 (bank 0 + 4 * bank 1 + 16 * bank 2 + 65536 * shownNumber b)),
    (0x0D, BitVec.ofNat 32 (flag b.rebuild + 2 * flag b.stagedWritten + 65536 * b.counter.toNat)),
    (0x0E, b.viewGen.setWidth 32),
    (0x10, b.staged.ox), (0x11, b.staged.oy), (0x12, b.staged.scale), (0x13, b.staged.width), (0x14, b.staged.height),
    (0x18, word32 b.view.ox), (0x19, word32 b.view.oy), (0x1A, word32 b.view.scale), (0x1B, word32 b.view.width),
    (0x1C, word32 b.view.height), (0x1D, coordinate Point.x b.lastDrawing), (0x1E, coordinate Point.y b.lastDrawing),
    (0x1F, BitVec.ofNat 32 (flag b.lastDrawing.isSome)),
    (0x20, p.x), (0x21, p.y), (0x22, p.aperture), (0x23, p.choice), (0x24, p.mask.setWidth 32),
    (0x25, p.matchTag.setWidth 32), (0x26, p.enables.setWidth 32), (0x27, BitVec.ofNat 32 (goForm p)),
    (0x28, BitVec.ofNat 32 (resultForm p)), (0x29, (handleForm p.handle).setWidth 32),
    (0x2A, word32 p.point.x), (0x2B, word32 p.point.y)]

/-- The inputs of a pick slot and GO, in the order of their locations (R195, R196). -/
def pickInputs : PickId → List PickInput
  | .pick0 => [.xLow, .xHigh, .yLow, .yHigh, .aperture, .choice, .mask, .matchTag, .enables, .go]
  | .pick1 => [.x, .y, .aperture, .choice, .mask, .matchTag, .enables, .go]

/-- The first location of a pick slot (R195, R196). -/
def pickFirst : PickId → Nat
  | .pick0 => 0x060
  | .pick1 => 0x20

end Sys2Proof.Claims

/-- Reads (R179 to R181, R194 to R196): INDEX reads itself. A location of the window's map reads its value; every other
one, an action and a write-only location among them, reads 0. A pair read low half first is read whole, the high half
coming from the latch whatever happened to the value in between, which empties it; a high half for which the latch is
not loaded reads as it stands; a read of any other location leaves the latch. STREAM makes its own effect. INDEX
advances unless it is a hold location. The value read is kept in the ports (log 6); the waiting bits of 0x039 stand
in the order of log 25, and the index bits of 0x03B read 0 while the capture is empty (log 26). -/
def Obligations.ReadsReturnTheLocation : Prop :=
  ∀ s : State,
    let n := s.ports.appIndex.toNat
    let d := s.ports.dispIndex.toNat
    let reads := fun v : Half => exec (.dataRead .app .data) s = .next { s with ports := { s.ports with
      appIndex := if n = 0 ∨ n = 0x11 ∨ n = 0x5D then s.ports.appIndex else s.ports.appIndex + 1
      appData := v } }
    let shows := fun v : Word => exec (.dataRead .disp .data) s = .next { s with ports := { s.ports with
      dispIndex := if d = 8 then s.ports.dispIndex else s.ports.dispIndex + 1
      dispData := v } }
    exec (.dataRead .app .index) s = .next { s with ports := { s.ports with appData := s.ports.appIndex } } ∧
    exec (.dataRead .disp .index) s =
      .next { s with ports := { s.ports with dispData := s.ports.dispIndex.setWidth 32 } } ∧
    (∀ e ∈ appPlaces s, n = e.1 → reads e.2) ∧
    ((∀ e ∈ appPlaces s, n ≠ e.1) → (∀ e ∈ appPairs s, n ≠ e.1 ∧ n ≠ e.1 + 1) → reads 0) ∧
    (∀ e ∈ appPairs s, n = e.1 + 1 → (∀ l, s.ports.latch = some l → l.location ≠ s.ports.appIndex) →
      reads (e.2.extractLsb' 16 16)) ∧
    (∀ e ∈ appPairs s, n = e.1 →
      ∃ t, exec (.dataRead .app .data) s = .next t ∧
        t = { s with ports := { s.ports with
          appIndex := s.ports.appIndex + 1
          appData := e.2.extractLsb' 0 16
          latch := some ⟨s.ports.appIndex + 1, e.2.extractLsb' 16 16⟩ } } ∧
        ∀ later : State, later.ports = t.ports →
          exec (.dataRead .app .data) later = .next { later with ports := { later.ports with
            appIndex := s.ports.appIndex + 2
            appData := e.2.extractLsb' 16 16
            latch := none } }) ∧
    (∀ e ∈ dispPlaces s, d = e.1 → shows e.2) ∧
    ((∀ e ∈ dispPlaces s, d ≠ e.1) → d ≠ 9 → shows 0) ∧
    (d = 9 → exec (.dataRead .disp .data) s = exec .stream s)

/-- Writes (R81, R179, R181, R184, R195, R196): INDEX takes the low 16 bits. A write to a location that has a command of
its own makes that command's effect; SUBMIT_LO takes the value; a write to a staged setting changes that location of
the staged block alone, and a half of a grid origin that half; a write to a read-only location, to STREAM or outside the
maps changes nothing. INDEX advances unless it is a hold location. The application port takes the low 16 bits of a
wider value (log 17). COMMAND is CommandsActByTheirCode's. -/
def Obligations.RegisterWriteStoresOrIsIgnored : Prop :=
  ∀ (s : State) (v : Word),
    let low := v.extractLsb' 0 16
    let n := s.ports.appIndex.toNat
    let d := s.ports.dispIndex.toNat
    let toApp := exec (.registerWrite .app .data v) s
    let toDisp := exec (.registerWrite .disp .data v) s
    let passed := { s with ports := { s.ports with appIndex := s.ports.appIndex + 1 } }
    exec (.registerWrite .app .index v) s = .next { s with ports := { s.ports with appIndex := low } } ∧
    exec (.registerWrite .disp .index v) s = .next { s with ports := { s.ports with dispIndex := low } } ∧
    (n = 0x01 → toApp = exec (.noticeRaw .app v) s) ∧ (n = 0x03 → toApp = exec (.enableSet .app v) s) ∧
    (n = 0x04 → toApp = exec (.enableClear .app v) s) ∧
    (n = 0x10 → toApp = .next { passed with update := { s.update with submitLo := low } }) ∧
    (n = 0x11 → toApp = exec (.submitHi low) s) ∧ (n = 0x5D → toApp = exec (.commitPop .location) s) ∧
    (∀ k input, (pickInputs .pick0)[k]? = some input → n = pickFirst .pick0 + k →
      toApp = exec (.pickBlockedWrite .pick0 input v) s) ∧
    (∀ e ∈ settingPlaces s.staged ++ gridHalves s.staged, n = 0x80 + e.1 →
      ∃ st, toApp = .next { passed with staged := st } ∧ settingPlaces st ++ gridHalves st =
        (settingPlaces s.staged ++ gridHalves s.staged).map fun g => if g.1 = e.1 then (g.1, low) else g) ∧
    (n ∉ [0x00, 0x01, 0x03, 0x04, 0x10, 0x11, 0x5D] → ¬ (0x60 ≤ n ∧ n ≤ 0x69) →
      (∀ e ∈ settingPlaces s.staged ++ gridHalves s.staged, n ≠ 0x80 + e.1) → toApp = .next passed) ∧
    (d = 0x00 → toDisp = exec (.noticeRaw .disp v) s) ∧ (d = 0x02 → toDisp = exec (.enableSet .disp v) s) ∧
    (d = 0x03 → toDisp = exec (.enableClear .disp v) s) ∧ (d = 0x08 → toDisp = exec (.frameStart v) s) ∧
    (d = 0x09 → toDisp = .next s) ∧ (d = 0x0A → toDisp = exec (.streamRewind v) s) ∧
    (∀ k field, [ViewField.ox, .oy, .scale, .width, .height][k]? = some field → d = 0x10 + k →
      toDisp = exec (.stagedViewWrite field v) s) ∧
    (∀ k input, (pickInputs .pick1)[k]? = some input → d = pickFirst .pick1 + k →
      toDisp = exec (.pickBlockedWrite .pick1 input v) s) ∧
    (d ∉ [0x00, 0x02, 0x03, 0x08, 0x09, 0x0A] → ¬ (0x10 ≤ d ∧ d ≤ 0x14) → ¬ (0x20 ≤ d ∧ d ≤ 0x27) →
      toDisp = .next { s with ports := { s.ports with dispIndex := s.ports.dispIndex + 1 } })

/-! ## The update engine (chapter 5) -/

namespace Sys2Proof.Claims

/-- The done count after n more endings (R90). -/
def doneBy (n : Nat) (done : BitVec 8) : BitVec 8 := BitVec.ofNat 8 (min 255 (done.toNat + n))

/-- The update engine after the list in flight ended with a status (R82, R83, R90, R94, R95): the record, the done
count, teardown cleared; a waiting list ends DISCARDED after a teardown and otherwise begins, and ends at once when
its head is 0 or misaligned. -/
def engineAfterEnding (f : InFlight) (status : ListStatus) (u : UpdateEngine) : UpdateEngine :=
  let ended := { u with
    inFlight := none, waiting := none, teardown := false, done := doneBy 1 u.done
    record := ⟨f.list, status, f.applied, f.cell⟩ }
  match u.waiting with
  | none => ended
  | some l =>
    if u.teardown then { ended with done := doneBy 2 u.done, record := ⟨l, .discarded, 0, 0⟩ }
    else if l.head = 0 then { ended with done := doneBy 2 u.done, record := ⟨l, .complete, 0, 0⟩ }
    else if l.head.toNat % 32 ≠ 0 then { ended with done := doneBy 2 u.done, record := ⟨l, .badLink, 0, 0⟩ }
    else { ended with inFlight := some ⟨l, 0, l.head, .fetching⟩ }

/-- The state after the list in flight ended with a status (R90): BUS_ERROR is raised for that status alone. -/
def ended (f : InFlight) (status : ListStatus) (s : State) : State :=
  { s with
    appNotices := raised s.appNotices [(status == .busError, .busError)]
    update := engineAfterEnding f status s.update }

/-- The state after the cell boundary of a reset (R96, R183): both lists dropped without endings, teardown, done count
and record cleared; BUS_ERROR for a failed write; back to RUN with RESET_DONE unless a commit is still outstanding. -/
def atBoundary (busError : Bool) (s : State) : State :=
  { s with
    engine := if s.tool.commit = none then .run else .resetting
    appNotices := raised s.appNotices [(busError, .busError), (s.tool.commit.isNone, .resetDone)]
    update := { s.update with
      inFlight := none, waiting := none, teardown := false, done := 0, record := ⟨⟨0, 0⟩, .none, 0, 0⟩ } }

/-- The list in flight takes a stage. -/
def atStage (f : InFlight) (stage : Stage) (s : State) : State :=
  { s with update := { s.update with inFlight := some { f with stage := stage } } }

end Sys2Proof.Claims

/-- SUBMIT_HI (R81 to R83): refused with SUBMIT_REFUSED when two lists are outstanding or the engine is RESETTING;
otherwise the list takes the next serial and waits behind the list in flight, or begins: a head of 0 ends COMPLETE,
a misaligned head BAD_LINK, any other starts its fetch. INDEX stands at SUBMIT_HI (log 5). -/
def Obligations.SubmissionIsAcceptedOrRefused : Prop :=
  ∀ (s : State) (high : Half),
    let head : Word := high ++ s.update.submitLo
    let serial := s.update.lastSerial + 1
    let ports := { s.ports with appIndex := 0x11 }
    let u := { s.update with lastSerial := serial }
    (s.engine = .resetting ∨ (s.update.inFlight.isSome = true ∧ s.update.waiting.isSome = true) →
      exec (.submitHi high) s =
        .next { s with appNotices := raised s.appNotices [(true, .submitRefused)], ports := ports }) ∧
    (s.engine = .run → s.update.inFlight.isSome = true → s.update.waiting = none →
      exec (.submitHi high) s = .next { s with update := { u with waiting := some ⟨head, serial⟩ }, ports := ports }) ∧
    (s.engine = .run → s.update.inFlight = none → s.update.waiting = none →
      (head = 0 → exec (.submitHi high) s = .next { s with
        update := { u with done := doneBy 1 u.done, record := ⟨⟨head, serial⟩, .complete, 0, 0⟩ }, ports := ports }) ∧
      (head.toNat % 32 ≠ 0 → exec (.submitHi high) s = .next { s with
        update := { u with done := doneBy 1 u.done, record := ⟨⟨head, serial⟩, .badLink, 0, 0⟩ }, ports := ports }) ∧
      (head ≠ 0 → head.toNat % 32 = 0 → exec (.submitHi high) s = .next { s with
        update := { u with inFlight := some ⟨⟨head, serial⟩, 0, head, .fetching⟩ }, ports := ports }))

/-- UPDATE_ACK (R91) lowers the done count by one with a floor of 0 and touches no list and no record. With an event
that makes n endings, one, or two when the waiting list ends with the list in flight (R82, R83, R94), the two orders
leave the same count while it is above 0 and the endings keep it within 255; at 0 the later endings make it n and the
later acknowledgement n - 1; where the endings would pass 255, the later endings make it 255 and the later
acknowledgement 254. INDEX stands at COMMAND (log 5). -/
def Obligations.UpdateAckLowersTheDoneCount : Prop :=
  ∀ s : State, ∃ t, exec .updateAck s = .next t ∧
    t = { s with update := { s.update with done := t.update.done }, ports := { s.ports with appIndex := 0 } } ∧
    t.update.done.toNat = s.update.done.toNat - 1 ∧
    ∀ f status, ∃ t', exec .updateAck (ended f status s) = .next t' ∧
      let ackFirst := (ended f status t).update.done.toNat
      let endFirst := t'.update.done.toNat
      let d := s.update.done.toNat
      let endings :=
        match s.update.waiting with
        | none => 1
        | some l => if s.update.teardown = true ∨ l.head = 0 ∨ l.head.toNat % 32 ≠ 0 then 2 else 1
      (0 < d → d + endings ≤ 255 → ackFirst = d + endings - 1 ∧ endFirst = d + endings - 1) ∧
      (d = 0 → ackFirst = endings ∧ endFirst = endings - 1) ∧
      (255 < d + endings → ackFirst = 255 ∧ endFirst = 254)

/-- FETCH_COMPLETION (R84, R85, R87, R90, R95): the fields of a cell stand in its words as R192 lays them out; a bus
error ends the list BUS_ERROR, a clear EO ends it STOPPED_UNOWNED. With EO set the cell is counted and dispatched by
its op: a NOP and an unknown op need no grant and leave table and tool unit alone; a table op is granted at once when
the table is free and otherwise waits; a drag cell waits while a commit is in progress. With no fetch outstanding it
is no event (log 3). A cell granted at once enters APPLYING with its grant, and its op begins at TABLE_GRANT (log 4).
-/
def Obligations.FetchEndsTheListOrDispatchesTheCell : Prop :=
  (∀ c : Cell, c.op = c.control.toNat / 2 ^ 24 % 16 ∧ c.kind = c.control.toNat % 4 ∧
    c.tag.toNat = c.classWord.toNat % 65536 ∧ c.mask.toNat = c.classWord.toNat / 65536 ∧
    c.p0 = ⟨c.p0x.toInt, c.p0y.toInt⟩ ∧ c.p1 = ⟨c.third.toInt, c.p1y.toInt⟩) ∧
  ∀ (s : State) (f : InFlight) (c : Cell), s.update.inFlight = some f →
    let run := exec (.fetchCompletion (.cell c)) s
    (f.stage ≠ .fetching → ∀ reply, exec (.fetchCompletion reply) s = .next s) ∧
    (f.stage = .fetching → s.engine = .run →
      exec (.fetchCompletion .busError) s = .next (ended f .busError s) ∧
      (c.control.toNat < 2 ^ 31 → run = .next (ended f .stoppedUnowned s)) ∧
      (2 ^ 31 ≤ c.control.toNat →
        let counted := { f with applied := f.applied + 1 }
        (c.op = 0 → run = .next (atStage counted (.writingBack c none (writeBackControl c .ok)) s)) ∧
        (8 ≤ c.op → run = .next (atStage counted (.writingBack c none (writeBackControl c .badOp)) s)) ∧
        (1 ≤ c.op → c.op ≤ 5 → s.arbiter.holder = none → (∀ r, s.arbiter.waiting.get r = false) →
          run = .next { atStage counted (.granted c) s with
            arbiter := { s.arbiter with holder := some .update, turn := .update } }) ∧
        (1 ≤ c.op → c.op ≤ 5 → s.arbiter.holder ≠ none → run = .next { atStage counted (.waiting c) s with
          arbiter := { s.arbiter with waiting := { s.arbiter.waiting with update := true } } }) ∧
        (c.op = 6 ∨ c.op = 7 → s.arbiter.holder = some .commit → run = .next (atStage counted (.waiting c) s))))

/-- The drag cells (R24, R86), dispatched while no commit is in progress: DRAG_BEGIN empties the figure and sets the
base; DRAG_SEGMENT adds two offsets; each refusal in its order leaves figure and base; OK alone requests a rebuild.
A drag cell that waits for the commit in progress makes at that commit's end the change it would make if it were
dispatched then (R87), in the same step (log 11). -/
def Obligations.DragCellsChangeTheFigure : Prop :=
  (∀ (s t : State) (f : InFlight) (c : Cell) (ending : Instr), s.update.inFlight = some f → f.stage = .waiting c →
    s.engine = .run → 2 ^ 31 ≤ c.control.toNat → c.op = 6 ∨ c.op = 7 → s.arbiter.holder = some .commit →
    s.applyPending = false → (∀ r, s.arbiter.waiting.get r = false) → ending = .tableGrant ∨ ending = .resolutionEnd →
    exec ending { s with update := { s.update with inFlight := none } } = .next t →
    t.tool.commit = none → t.arbiter.holder = none →
    exec ending s = exec (.fetchCompletion (.cell c))
      { t with update := { s.update with inFlight := some { f with stage := .fetching, applied := f.applied - 1 } } }) ∧
  ∀ (s : State) (f : InFlight) (c : Cell), s.update.inFlight = some f → f.stage = .fetching → s.engine = .run →
    2 ^ 31 ≤ c.control.toNat → s.arbiter.holder ≠ some .commit →
    let after := fun (result : CellResult) (d : Drag) (rebuild : Bool) =>
      exec (.fetchCompletion (.cell c)) s = .next
        { atStage { f with applied := f.applied + 1 } (.writingBack c none (writeBackControl c result)) s with
          tool := { s.tool with drag := d }
          builder := { s.builder with rebuild := s.builder.rebuild || rebuild } }
    let d := s.tool.drag
    (c.op = 6 → c.p0.inWorld = true → after .ok ⟨some c.p0, []⟩ true) ∧
    (c.op = 6 → c.p0.inWorld = false → after .outOfRange d false) ∧
    (c.op = 7 → c.p0.inWorld = false ∨ c.p1.inWorld = false → after .outOfRange d false) ∧
    (c.op = 7 → c.p0.inWorld = true → c.p1.inWorld = true →
      (d.base = none → after .noBase d false) ∧
      ∀ base, d.base = some base →
        (64 ≤ d.figure.length → after .dragFull d false) ∧
        (d.figure.length < 64 → after .ok
          ⟨some base, d.figure ++ [⟨⟨c.p0.x - base.x, c.p0.y - base.y⟩, ⟨c.p1.x - base.x, c.p1.y - base.y⟩⟩]⟩ true))

/-- CELL_APPLICATION (R69, R85, R88, R96, R192), in RUN and in RESETTING alike: the op under the UPDATE grant
completes whole, its generation's advance requests a rebuild, the grant is released and the write-back starts; its
control word carries the result in bits 23..16 by its code, EO and TD clear, every other bit as fetched. Before it,
TABLE_GRANT begins the op of the cell that holds the grant (log 4). -/
def Obligations.CellApplicationCompletesTheOp : Prop :=
  (∀ c : Cell, ∀ e ∈ [(CellResult.ok, 0), (.tableFull, 1), (.wideFull, 2), (.staleHandle, 3), (.badKind, 4),
    (.badOp, 5), (.outOfRange, 6), (.dragFull, 7), (.noBase, 8), (.tornDown, 9), (.badBinSize, 10)],
    (writeBackControl c e.1).extractLsb' 16 8 = e.2) ∧
  (∀ (c : Cell) (r : CellResult),
    (writeBackControl c r).getLsbD 31 = false ∧ (writeBackControl c r).getLsbD 30 = false ∧
    ∀ n, n < 16 ∨ (24 ≤ n ∧ n < 30) → (writeBackControl c r).getLsbD n = c.control.getLsbD n) ∧
  (∀ (s : State) (f : InFlight) (c : Cell), s.update.inFlight = some f → f.stage = .granted c →
    s.arbiter.holder = some .update →
    exec .tableGrant s = .next (atStage f (.applying c) s) ∧ exec .cellApplication s = .next s) ∧
  ∀ (s : State) (f : InFlight) (c : Cell), s.update.inFlight = some f → f.stage = .applying c →
    s.arbiter.holder = some .update → (∀ r, s.arbiter.waiting.get r = false) →
    s.engine = .resetting ∨ s.applyPending = false →
    let o := s.table.applyOp c
    exec .cellApplication s = .next
      { atStage f (.writingBack c o.handleWord (writeBackControl c o.result)) s with
        table := o.table
        builder := { s.builder with rebuild := s.builder.rebuild || o.table.generation != s.table.generation }
        arbiter := { s.arbiter with holder := none } }

/-- WRITE_BACK_COMPLETION and MARKING_COMPLETION (R88, R89, R94, R95, R192): the handle word, where the op writes
it, goes before the control word, and a bus error stops the write-back there and ends the list BUS_ERROR; otherwise
the link of the fetched copy is followed, or the next cell is marked when a teardown is pending; the marked control
word reads TD set, EO clear, result 9, all else 0. The words written are shown in masterWrites (log 7); the marked
cell is the last cell of the record (log 9); an answer to a write that is not made is ignored (log 21). -/
def Obligations.WriteBackCompletesTheCell : Prop :=
  ∀ (s : State) (f : InFlight) (c : Cell) (h : Option Word) (w : Word) (e1 e2 : Bool),
    s.update.inFlight = some f → s.engine = .run →
    (f.stage = .marking →
      exec (.markingCompletion false) s =
        .next (ended f .tornDown { s with masterWrites := [(f.cell + 4, 0x40090000)] }) ∧
      exec (.markingCompletion true) s = .next (ended f .busError { s with masterWrites := [] })) ∧
    (f.stage = .writingBack c h w →
    let run := exec (.writeBackCompletion e1 e2) s
    let writes := fun l => { s with masterWrites := l }
    let both := (h.map fun v => (f.cell + 28, v)).toList ++ [(f.cell + 4, w)]
    (h.isSome = true → e1 = true → run = .next (ended f .busError (writes []))) ∧
    (h = none ∨ e1 = false → e2 = true →
      run = .next (ended f .busError (writes ((h.map fun v => (f.cell + 28, v)).toList)))) ∧
    (h = none ∨ e1 = false → e2 = false →
      (c.link.toNat % 32 ≠ 0 → run = .next (ended f .badLink (writes both))) ∧
      (s.update.teardown = false → c.link = 0 → run = .next (ended f .complete (writes both))) ∧
      (s.update.teardown = false → c.link ≠ 0 → c.link.toNat % 32 = 0 →
        run = .next (atStage { f with cell := c.link } .fetching (writes both))) ∧
      (s.update.teardown = true → c.link = 0 → run = .next (ended f .tornDown (writes both))) ∧
      (s.update.teardown = true → c.link ≠ 0 → c.link.toNat % 32 = 0 →
        run = .next (atStage { f with cell := c.link } .marking (writes both)))))

/-- The cell boundary of a reset (R96, R183): while RESETTING, the completion that the stage awaits drops both lists
without endings, follows no link and makes no marking. The words written are shown in masterWrites (log 7); an answer
to a write that is not made is ignored (log 21); the engine returns to RUN when no commit is left (log 11). -/
def Obligations.ResetBoundaryDropsTheLists : Prop :=
  ∀ (s : State) (f : InFlight), s.update.inFlight = some f → s.engine = .resetting →
    (f.stage = .fetching → ∀ reply, exec (.fetchCompletion reply) s = .next (atBoundary false s)) ∧
    (f.stage = .marking → ∀ e, exec (.markingCompletion e) s =
      .next (atBoundary e { s with masterWrites := if e then [] else [(f.cell + 4, 0x40090000)] })) ∧
    (∀ c w, f.stage = .writingBack c none w → ∀ e1 e2, exec (.writeBackCompletion e1 e2) s =
      .next (atBoundary e2 { s with masterWrites := if e2 then [] else [(f.cell + 4, w)] })) ∧
    (∀ c h w, f.stage = .writingBack c (some h) w → ∀ e1 e2, exec (.writeBackCompletion e1 e2) s =
      .next (atBoundary (e1 || e2) { s with masterWrites :=
        if e1 then [] else (f.cell + 28, h) :: if e2 then [] else [(f.cell + 4, w)] }))

/-! ## The snap target table (chapter 4) -/

namespace Sys2Proof.Claims

/-- The slots released by an operation, and nothing else of the slots, changed: each released slot is FREE with its tag
advanced (R56, R63). -/
def Released (t t' : Table) (gone : SlotNo → Prop) : Prop :=
  ∀ n, (gone n → t'.slots[n] = ⟨(t.slots[n]).reuse + 1, none⟩) ∧ (¬ gone n → t'.slots[n] = t.slots[n])

/-- No bin, neither list, holds a slot. -/
def EnteredNowhere (t : Table) (n : SlotNo) : Prop := (∀ b, ¬ t.binHas b n) ∧ n ∉ t.wide ∧ n ∉ t.learned

/-- Window and generation: the window kept, the generation advanced by one exactly when something changed (R74). -/
def Counted (t t' : Table) (changed : Prop) : Prop :=
  t'.originX = t.originX ∧ t'.originY = t.originY ∧ t'.k = t.k ∧
    (changed → t'.generation = t.generation + 1) ∧ (¬ changed → t'.generation = t.generation)

/-- The shape an INSERT describes, when its kind code and its coordinates are legal (R64). -/
def legalShape (c : Cell) : Option Shape :=
  if c.kind = 0 ∧ c.p0.inWorld = true then some (.point c.p0)
  else if c.kind = 1 ∧ c.p0.inWorld = true ∧ c.p1.inWorld = true then some (.segment c.p0 c.p1)
  else if c.kind = 2 ∧ c.p0.inWorld = true ∧ 0 ≤ c.third.toInt ∧ c.third.toInt ≤ 8388607 then
    some (.circle c.p0 c.third.toInt.toNat)
  else none

end Sys2Proof.Claims

/-- INSERT (R57, R60, R64): the results in their order; for OK the lowest FREE slot takes the record, is entered by
its placement, and its handle is handed back; every other result leaves the table and hands back the no-handle
value. -/
def Obligations.InsertTakesTheLowestFreeSlot : Prop :=
  ∀ (t : Table) (c : Cell), c.op = 1 →
    let o := t.applyOp c
    (o.result ≠ .ok → o.table = t ∧ o.handleWord = some 0xFFFF) ∧
    (3 ≤ c.kind → o.result = .badKind) ∧
    (c.kind < 3 → legalShape c = none → o.result = .outOfRange) ∧
    ∀ shape, legalShape c = some shape →
      ((∀ n, t.target n ≠ none) → o.result = .tableFull) ∧
      ∀ n, t.target n = none → (∀ m, m < n → t.target m ≠ none) →
        (t.place shape.box = none → o.result = .wideFull) ∧
        ∀ p, t.place shape.box = some p →
          o.result = .ok ∧ o.handleWord = some (BitVec.ofNat 32 ((t.slots[n]).reuse.toNat * 1024 + n.val)) ∧
          (o.table.slots[n]) = ⟨(t.slots[n]).reuse, some ⟨shape, .application, c.tag, p⟩⟩ ∧
          (∀ m, m ≠ n → (o.table.slots[m]) = t.slots[m]) ∧
          (∀ b m, o.table.binHas b m ↔ t.binHas b m ∨ (m = n ∧ ∃ l, p = .bins l ∧ b ∈ l)) ∧
          (∀ m, m ∈ o.table.wide ↔ m ∈ t.wide ∨ (m = n ∧ p = .wide)) ∧
          (∀ l, p = .bins l → o.table.freeRefs + l.length = t.freeRefs) ∧
          (p = .wide → o.table.freeRefs = t.freeRefs) ∧ o.table.learned = t.learned ∧ Counted t o.table True

/-- Boxes and placement (R23, R58, R60): the box of each kind of target; bins when the box lies wholly inside the
window, overlaps at most 8 bins and the pool has a reference for each; the bins of the columns and rows it reaches,
ascending; otherwise the wide list while it holds fewer than 64; otherwise none. -/
def Obligations.PlacementByTheThreeConditions : Prop :=
  (∀ p : Point, (Shape.point p).box = ⟨p.x, p.y, p.x, p.y⟩) ∧
  (∀ a b : Point, (Shape.segment a b).box = ⟨min a.x b.x, min a.y b.y, max a.x b.x, max a.y b.y⟩) ∧
  (∀ (c : Point) (r : Nat), (Shape.circle c r).box =
    ⟨max (-8388608) (min 8388607 (c.x - r)), max (-8388608) (min 8388607 (c.y - r)),
      max (-8388608) (min 8388607 (c.x + r)), max (-8388608) (min 8388607 (c.y + r))⟩) ∧
  ∀ (t : Table) (box : Box), box.xmin ≤ box.xmax → box.ymin ≤ box.ymax →
    let column := fun x : Int => (x - t.originX) / 2 ^ t.k
    let row := fun y : Int => (y - t.originY) / 2 ^ t.k
    let count := (column box.xmax - column box.xmin + 1) * (row box.ymax - row box.ymin + 1)
    let fits := 0 ≤ column box.xmin ∧ column box.xmax ≤ 15 ∧ 0 ≤ row box.ymin ∧ row box.ymax ≤ 15 ∧ count ≤ 8 ∧
      count ≤ t.freeRefs
    (fits → ∃ l : List BinNo, t.place box = some (.bins l) ∧ (l.length : Int) = count ∧ l.Pairwise (· < ·) ∧
      ∀ b : BinNo, b ∈ l ↔ column box.xmin ≤ (b.val % 16 : Nat) ∧ ((b.val % 16 : Nat) : Int) ≤ column box.xmax ∧
        row box.ymin ≤ (b.val / 16 : Nat) ∧ ((b.val / 16 : Nat) : Int) ≤ row box.ymax) ∧
    (¬ fits → t.wide.length < 64 → t.place box = some .wide) ∧
    (¬ fits → 64 ≤ t.wide.length → t.place box = none)

/-- DELETE, DELETE_CLASS, FORGET_LEARNED and CLEAR (R56, R63, R65 to R68, R74): a stale handle, and a value that is
the form of no handle, give STALE_HANDLE and change nothing; a named target is released whatever its origin; every
APPLICATION target whose tag agrees with the match under the mask, or every LEARNED target, is released and their
number handed back; CLEAR tests its origin, then its k, and otherwise empties the table and sets the window. -/
def Obligations.RemovalsReleaseTheirTargets : Prop :=
  ∀ (t : Table) (cap : Nat) (c : Cell), t.Law cap →
    let o := t.applyOp c
    (c.op = 2 →
      let v := c.handleWord.toNat % 65536
      let n : SlotNo := ⟨v % 1024, Nat.mod_lt _ (by decide)⟩
      o.handleWord = none ∧
      (v / 1024 ≠ (t.slots[n]).reuse.toNat ∨ t.target n = none → o.result = .staleHandle ∧ o.table = t) ∧
      (v / 1024 = (t.slots[n]).reuse.toNat → t.target n ≠ none →
        o.result = .ok ∧ Released t o.table (· = n) ∧ EnteredNowhere o.table n ∧ Counted t o.table True)) ∧
    (c.op = 3 ∨ c.op = 5 →
      let gone : SlotNo → Prop := fun n => ∃ g, t.target n = some g ∧
        ((c.op = 3 ∧ g.origin = .application ∧ g.tag &&& c.mask = c.tag &&& c.mask) ∨
          (c.op = 5 ∧ g.origin = .learned))
      o.result = .ok ∧ Released t o.table gone ∧ (∀ n, gone n → EnteredNowhere o.table n) ∧
        Counted t o.table (∃ n, gone n) ∧
        ∃ l : List SlotNo, l.Nodup ∧ (∀ n, n ∈ l ↔ gone n) ∧ o.handleWord = some (BitVec.ofNat 32 l.length)) ∧
    (c.op = 4 →
      let k := c.third.toInt
      (c.p0.inWorld = false → o = ⟨t, .outOfRange, none⟩) ∧
      (c.p0.inWorld = true → k < 4 ∨ 19 < k → o = ⟨t, .badBinSize, none⟩) ∧
      (c.p0.inWorld = true → 4 ≤ k → k ≤ 19 →
        o.result = .ok ∧ o.handleWord = none ∧ Released t o.table (t.target · ≠ none) ∧
        (∀ n, o.table.target n = none) ∧ (∀ b : BinNo, o.table.bins[b] = []) ∧ o.table.wide = [] ∧
        o.table.learned = [] ∧ o.table.freeRefs = 2048 ∧ o.table.originX = c.p0.x ∧ o.table.originY = c.p0.y ∧
        (o.table.k : Int) = k ∧ o.table.generation = t.generation + 1))

/-- Learning (R71, R72): with LEARN_CAP 0 nothing; an equal learned point is refreshed; otherwise as few of the oldest
learned points as make room, at least one when the list is full, give way to the new point, which takes the lowest
FREE slot with that slot's reuse tag, is entered by its placement, and becomes the newest; or learning is skipped with
the table unchanged, when no learned point is left to give way. A point that gives way is released, in the bins, the
wide list and the learned list, and every other target stays where it is. -/
def Obligations.LearningRefreshesEntersOrSkips : Prop :=
  ∀ (t : Table) (cap : Nat) (tag : Half) (p : Point), t.Law cap →
    let o := t.learn cap tag p
    (t.lowestFree = none ↔ ∀ n, t.target n ≠ none) ∧
    (∀ n, t.lowestFree = some n ↔ t.target n = none ∧ ∀ m, m < n → t.target m ≠ none) ∧
    (∀ k, let gone := t.learned.take k
      let left := t.releaseAll gone
      Released t left (· ∈ gone) ∧ (∀ n ∈ gone, EnteredNowhere left n) ∧ left.learned = t.learned.drop k ∧
        (∀ b n, left.binHas b n ↔ t.binHas b n ∧ n ∉ gone) ∧ left.wide = t.wide.filter (· ∉ gone) ∧
        left.refsUsed + left.freeRefs = 2048 ∧
        left.originX = t.originX ∧ left.originY = t.originY ∧ left.k = t.k) ∧
    (cap = 0 → o = ⟨t, none, false⟩) ∧
    (∀ n g, n ∈ t.learned → t.target n = some g → g.shape = .point p →
      o = ⟨{ t with learned := (t.learned.filter (· ≠ n)) ++ [n] }, some ⟨n, (t.slots[n]).reuse⟩, false⟩) ∧
    (cap ≠ 0 → (∀ n g, n ∈ t.learned → t.target n = some g → g.shape ≠ .point p) →
      (o = ⟨t, none, true⟩ ∧
        ((t.learned = [] ∧ ∀ m, t.target m ≠ none) ∨
          (t.releaseAll t.learned).place (Shape.point p).box = none)) ∨
      ∃ (k : Nat) (n : SlotNo) (reuse : BitVec 5) (pl : Placement),
        o.handle = some ⟨n, reuse⟩ ∧ o.skipped = false ∧
        (t.learned.length = cap → 1 ≤ k) ∧ k ≤ t.learned.length ∧
        (∀ j, j < k → (t.learned.length = cap → 1 ≤ j) →
          (t.releaseAll (t.learned.take j)).lowestFree = none ∨
            (t.releaseAll (t.learned.take j)).place (Shape.point p).box = none) ∧
        o.table.learned = t.learned.drop k ++ [n] ∧
        o.table.slots[n] = ⟨reuse, some ⟨.point p, .learned, tag, pl⟩⟩ ∧
        reuse = (if n ∈ t.learned.take k then (t.slots[n]).reuse + 1 else (t.slots[n]).reuse) ∧
        (n ∈ t.learned.take k ∨ t.target n = none) ∧
        (let cleared := t.releaseAll (t.learned.take k);
          cleared.place (Shape.point p).box = some pl ∧
          (∀ b m, o.table.binHas b m ↔ cleared.binHas b m ∨ (m = n ∧ ∃ l, pl = .bins l ∧ b ∈ l)) ∧
          (∀ m, m ∈ o.table.wide ↔ m ∈ cleared.wide ∨ (m = n ∧ pl = .wide)) ∧
          ∀ m ∈ t.learned.take k, EnteredNowhere cleared m) ∧
        (∀ m, m ≠ n → m ∈ t.learned.take k → o.table.slots[m] = ⟨(t.slots[m]).reuse + 1, none⟩) ∧
        (∀ m, m ≠ n → m ∉ t.learned.take k → o.table.slots[m] = t.slots[m]) ∧
        (∀ m, m < n → o.table.target m ≠ none) ∧ Counted t o.table True)

/-- The gather (R62): ascending, each slot at most once, occupied slots alone, and none missed whose box meets the
query box. -/
def Obligations.GatherMissesNoTarget : Prop :=
  ∀ (t : Table) (cap : Nat) (q : Box), t.Law cap → q.xmin ≤ q.xmax → q.ymin ≤ q.ymax →
    (t.gather q).Pairwise (· < ·) ∧ (∀ n ∈ t.gather q, t.target n ≠ none) ∧
    (∀ n ∈ t.wide, n ∈ t.gather q) ∧
    ∀ n g, t.target n = some g →
      g.shape.box.xmin ≤ q.xmax → q.xmin ≤ g.shape.box.xmax → g.shape.box.ymin ≤ q.ymax →
      q.ymin ≤ g.shape.box.ymax → n ∈ t.gather q

/-- The next grant (R76): COMMIT when it waits, with the round-robin position unchanged; otherwise the first waiting
one in the cyclic order from the one after the position, which then names it; no grant when nobody waits; and every
grant to another of the four brings a waiting one of them nearer its turn. The grant changes nothing but the arbiter
and the stage of its holder (R85, R173), and it is made in the step that releases: a command that ends an operation
with requests waiting ends it as it does with none waiting, and then makes the next grant (log 4). -/
def Obligations.NextGrantGoesToCommitThenInTurn : Prop :=
  (∀ (s t : State) (release : Instr),
    release = .tableGrant ∨ release = .resolutionEnd ∨ release = .cellApplication ∨ release = .pickCompletion →
    s.arbiter.holder ≠ none → s.applyPending = false →
    exec release { s with arbiter := { s.arbiter with waiting := ⟨false, false, false, false, false⟩ } } = .next t →
    t.arbiter.holder = none →
    exec release s = .next (arbitrate { t with arbiter := { t.arbiter with waiting := s.arbiter.waiting } })) ∧
  ∀ (s : State) (t : State), t = arbitrate (freeHolder s) →
    (s.arbiter.waiting.commit = true → t = { s with arbiter :=
      ⟨some .commit, { s.arbiter.waiting with commit := false }, s.arbiter.turn⟩ }) ∧
    (s.arbiter.waiting.commit = false → ∀ x : Turn, s.arbiter.waiting.get x.requester = true →
      (∀ y : Turn, s.arbiter.waiting.get y.requester = true →
        distance s.arbiter.turn x ≤ distance s.arbiter.turn y) →
      t.arbiter.holder = some x.requester ∧ t.arbiter.turn = x ∧
        t = { s with
          arbiter := t.arbiter
          update := { s.update with inFlight := s.update.inFlight.map fun f =>
            match x, f.stage with
            | .update, .waiting c => { f with stage := .granted c }
            | _, _ => f }
          pick0 := if x = .pick0 then { s.pick0 with control := .searching } else s.pick0
          pick1 := if x = .pick1 then { s.pick1 with control := .searching } else s.pick1 } ∧
        (∀ r, t.arbiter.waiting.get r = (s.arbiter.waiting.get r && r != x.requester)) ∧
        ∀ y : Turn, y ≠ x → s.arbiter.waiting.get y.requester = true →
          distance t.arbiter.turn y < distance s.arbiter.turn y) ∧
    ((∀ r, s.arbiter.waiting.get r = false) → t = { s with arbiter := { s.arbiter with holder := none } })

/-! ## Resolutions (chapter 6) -/

namespace Sys2Proof.Claims

/-- The keys of the candidate choice (R108): a is preferred to b. -/
def Preferred (a b : Candidate) : Prop :=
  b.ref.feature.priority < a.ref.feature.priority ∨
  (a.ref.feature.priority = b.ref.feature.priority ∧
    (a.d2 < b.d2 ∨ (a.d2 = b.d2 ∧ (a.ref.handle.slot < b.ref.handle.slot ∨
      (a.ref.handle.slot = b.ref.handle.slot ∧ a.ref.index.toNat < b.ref.index.toNat)))))

end Sys2Proof.Claims

/-- Candidates and their choice (R103 to R108): the candidates are exactly the features that are on, of eligible
targets that the gather returns, whose point passes the aperture test; a non-empty set has a best candidate, one of
the set, to which no other is preferred. -/
def Obligations.CandidateChoiceFollowsTheKeys : Prop :=
  (∀ l : List Candidate, (bestCandidate l = none ↔ l = []) ∧
    ∀ b, bestCandidate l = some b → b ∈ l ∧ ∀ c ∈ l, ¬ Preferred c b) ∧
  ∀ (t : Table) (c : Point) (radius : Int) (ok : Half → Bool) (on : Feature → Bool) (x : Candidate),
    x ∈ candidates t c radius ok on ↔
      ∃ n g fp, n ∈ t.gather ⟨sat (c.x - radius), sat (c.y - radius), sat (c.x + radius), sat (c.y + radius)⟩ ∧
        t.target n = some g ∧ ok g.tag = true ∧
        fp ∈ g.shape.features c ∧ on fp.feature = true ∧ dist2 fp.point c ≤ radius * radius ∧
        x = ⟨⟨⟨n, (t.slots[n]).reuse⟩, fp.feature, fp.index⟩, fp.point, dist2 fp.point c⟩

/-- Object snap (R102 to R105, R107, R111, R112): the features of each kind of target with their priorities;
eligibility by the four filters, and a feature's enable; the best candidate of a resolution is that of the candidates
about its C within the aperture at the view's scale, under the active filters and enables; a capture is valid exactly
when the five tests pass; a valid capture holds unless the best candidate has strictly higher priority; CAPTURED is
set exactly when the captured feature is yielded and is not itself the best candidate; an invalid or empty capture
yields the best candidate, or nothing. In NORMAL mode what object snap yields is the result of the resolution, and
when it yields nothing the result names no target. -/
def Obligations.ObjectSnapHoldsTheCapture : Prop :=
  (∀ p c : Point, (Shape.point p).features c = [⟨.node, 0, p⟩]) ∧
  (∀ a b c : Point, (Shape.segment a b).features c =
    [⟨.endPoint, 0, a⟩, ⟨.endPoint, 1, b⟩, ⟨.mid, 0, midpoint a b⟩, ⟨.near, 0, nearestOnSegment a b c⟩]) ∧
  (∀ (o c : Point) (r : Nat), (Shape.circle o r).features c =
    [⟨.center, 0, o⟩, ⟨.quad, 0, ⟨sat (o.x + r), sat o.y⟩⟩, ⟨.quad, 1, ⟨sat o.x, sat (o.y + r)⟩⟩,
      ⟨.quad, 2, ⟨sat (o.x - r), sat o.y⟩⟩, ⟨.quad, 3, ⟨sat o.x, sat (o.y - r)⟩⟩]) ∧
  (∀ e ∈ [(Feature.node, 6), (.endPoint, 6), (.center, 5), (.mid, 4), (.quad, 3), (.near, 2)],
    Feature.priority e.1 = e.2) ∧
  (∀ (filters : Vector ClassFilter 4) (tag : Half), eligible filters tag = true ↔
    ∃ n : Fin 4, (filters[n]).enable ≠ 0 ∧ tag &&& (filters[n]).mask = (filters[n]).matchTag &&& (filters[n]).mask) ∧
  (∀ enables : Half, ∀ e ∈ [(Feature.node, 0), (.endPoint, 1), (.mid, 2), (.center, 3), (.quad, 4), (.near, 5),
    (.grid, 6)], featureOn enables e.1 = enables.getLsbD e.2) ∧
  ∀ (i : ResolutionInputs) (t : Table),
    let apw : Int := (i.settings.aperture.toNat * i.scale + 255) / 256
    resolutionBest i t = bestCandidate
      (candidates t i.c apw (eligible i.settings.filters) (featureOn i.settings.enables)) ∧
    (∀ ref p, validCapture i t = some (ref, p) ↔ i.capture = some ref ∧
      ∃ g, t.target ref.handle.slot = some g ∧ (t.slots[ref.handle.slot]).reuse = ref.handle.tag ∧
        (⟨ref.feature, ref.index, p⟩ : FeaturePoint) ∈ g.shape.features i.c ∧
        eligible i.settings.filters g.tag = true ∧ featureOn i.settings.enables ref.feature = true ∧
        dist2 p i.c ≤ apw * i.settings.release.toNat * (apw * i.settings.release.toNat)) ∧
    (i.mode = .normal → ∀ r, objectSnap i t = some r → resolve i t = r) ∧
    (i.mode = .normal → objectSnap i t = none → (resolve i t).handle = none) ∧
    (∀ ref p, validCapture i t = some (ref, p) → ∃ r, objectSnap i t = some r ∧
      (∀ b, resolutionBest i t = some b → ref.feature.priority < b.ref.feature.priority →
        r = ⟨b.point, b.ref.feature, some b.ref.handle, b.ref.index, false, false⟩) ∧
      ((∀ b, resolutionBest i t = some b → b.ref.feature.priority ≤ ref.feature.priority) →
        r.s = p ∧ r.feature = ref.feature ∧ r.handle = some ref.handle ∧ r.index = ref.index ∧
          r.constrained = false ∧ (r.captured = false ↔ (resolutionBest i t).map Candidate.ref = some ref))) ∧
    (validCapture i t = none → objectSnap i t =
      (resolutionBest i t).map fun b => ⟨b.point, b.ref.feature, some b.ref.handle, b.ref.index, false, false⟩)

/-- The capture a result makes (R113): its object feature with handle, feature and index, or none. A result without an
object feature (R18, R19, R116 to R119): the angle constraint in its three modes; it is
skipped in NO_SNAP and without an anchor, the grid moves the free axes; the flags CAPTURED and CONSTRAINED are never
both set, and the handle is present exactly with an object feature. -/
def Obligations.ResolutionResultIsConsistent : Prop :=
  (∀ a c : Point,
    let dx := c.x - a.x
    let dy := c.y - a.y
    let m : Int := (dx.natAbs + dy.natAbs + 1) / 2
    constrain .free a c = (c, .none) ∧
    (c = a → constrain .ortho a c = (c, .none) ∧ constrain .octo a c = (c, .none)) ∧
    (c ≠ a →
      (dy.natAbs ≤ dx.natAbs → constrain .ortho a c = (⟨c.x, a.y⟩, .horizontal)) ∧
      (dx.natAbs < dy.natAbs → constrain .ortho a c = (⟨a.x, c.y⟩, .vertical)) ∧
      (128 * dy.natAbs ≤ 53 * dx.natAbs → constrain .octo a c = (⟨c.x, a.y⟩, .horizontal)) ∧
      (128 * dx.natAbs ≤ 53 * dy.natAbs → constrain .octo a c = (⟨a.x, c.y⟩, .vertical)) ∧
      (53 * dx.natAbs < 128 * dy.natAbs → 53 * dy.natAbs < 128 * dx.natAbs → constrain .octo a c =
        (⟨sat (a.x + if 0 < dx then m else -m), sat (a.y + if 0 < dy then m else -m)⟩, .diagonal)))) ∧
  (∀ st : Settings, (st.constraint = 0 → st.constraintMode = .free) ∧
    (st.constraint = 1 → st.constraintMode = .ortho) ∧ (st.constraint = 2 → st.constraintMode = .octo)) ∧
  ∀ (i : ResolutionInputs) (t : Table),
    let r := resolve i t
    (r.captured = true → r.constrained = false) ∧
    (r.handle.isSome = true ↔ r.feature ≠ .none ∧ r.feature ≠ .grid) ∧
    (r.handle = none → r.captured = false ∧ r.index = 0) ∧
    (i.mode ≠ .normal → r.handle = none ∧ captureOf r = none) ∧
    (∀ h, r.handle = some h → captureOf r = some ⟨h, r.feature, r.index⟩) ∧
    (r.feature = .none ∨ r.feature = .grid → captureOf r = none) ∧
    (r.handle = none →
      let q := if i.mode = .noSnap then (i.c, Direction.none) else
        match i.anchor with
        | none => (i.c, Direction.none)
        | some a => constrain i.settings.constraintMode a i.c
      let gx := i.settings.enables.getLsbD 6 = true ∧ i.settings.pitchX ≠ 0 ∧
        (q.2 = .none ∨ q.2 = .horizontal)
      let gy := i.settings.enables.getLsbD 6 = true ∧ i.settings.pitchY ≠ 0 ∧
        (q.2 = .none ∨ q.2 = .vertical)
      (r.constrained = true ↔ q.1 ≠ i.c) ∧
      (gx → r.s.x = gridAxis q.1.x i.settings.pitchX.toNat i.settings.gridX.toInt) ∧ (¬ gx → r.s.x = q.1.x) ∧
      (gy → r.s.y = gridAxis q.1.y i.settings.pitchY.toNat i.settings.gridY.toInt) ∧ (¬ gy → r.s.y = q.1.y) ∧
      (r.feature = .grid ↔ gx ∨ gy))

/-! ## The arithmetic of chapter 1 -/

/-- Round half away, distance, radius and grid (R5, R13, R14, R20): the nearest integer, the one farther from zero at
a tie, symmetric about zero; the square root of the squared distance rounded to the nearest integer, then clamped,
without ties; the nearest grid line, toward +∞ at a tie, saturated, and with pitch 0 the coordinate itself. -/
def Obligations.RoundingGoesToTheNearest : Prop :=
  (∀ n d : Int, 0 < d →
    roundHalfAway (-n) d = -roundHalfAway n d ∧
    (0 ≤ n → roundHalfAway n d = (2 * n + d) / (2 * d)) ∧
    2 * (n - roundHalfAway n d * d).natAbs ≤ d.natAbs ∧
    (2 * (n - roundHalfAway n d * d).natAbs = d.natAbs → n.natAbs ≤ (roundHalfAway n d * d).natAbs)) ∧
  (∀ c p : Point, c.inWorld = true → p.inWorld = true →
    let d := (dist2 c p).toNat
    ∃ s : Nat, s * s ≤ d ∧ d < (s + 1) * (s + 1) ∧
      circleRadius c p = min 8388607 (if s < d - s * s then (s : Int) + 1 else s) ∧
      (2 * s + 1) * (2 * s + 1) ≠ 4 * d ∧ (c = p → circleRadius c p = 0)) ∧
  (∀ p q : Point, dist2 p q = (p.x - q.x) * (p.x - q.x) + (p.y - q.y) * (p.y - q.y)) ∧
  ∀ x pitch origin : Int,
    (pitch = 0 → gridAxis x pitch origin = x) ∧
    (0 < pitch → ∃ q : Int, gridAxis x pitch origin = sat (origin + q * pitch) ∧
      2 * (x - (origin + q * pitch)) < pitch ∧ -pitch ≤ 2 * (x - (origin + q * pitch)))

/-- The nearest point on a segment (R17): A or B beyond the ends, otherwise the rounded offsets, always within the
box of A and B, unchanged by saturation, and the one NEAR feature of the segment; the midpoint (R15) too lies
between the ends. -/
def Obligations.DerivedPointsLieWithinTheSegment : Prop :=
  ∀ a b p : Point,
    let dx := b.x - a.x
    let dy := b.y - a.y
    let l := dx * dx + dy * dy
    let t := (p.x - a.x) * dx + (p.y - a.y) * dy
    let q := nearestOnSegment a b p
    (t ≤ 0 → q = a) ∧ (0 < t → l ≤ t → q = b) ∧
    (0 < t → t < l → q = ⟨a.x + roundHalfAway (t * dx) l, a.y + roundHalfAway (t * dy) l⟩) ∧
    min a.x b.x ≤ q.x ∧ q.x ≤ max a.x b.x ∧ min a.y b.y ≤ q.y ∧ q.y ≤ max a.y b.y ∧
    (a.inWorld = true → b.inWorld = true →
      midpoint a b = ⟨(a.x + b.x + 1) / 2, (a.y + b.y + 1) / 2⟩ ∧
      min a.x b.x ≤ (midpoint a b).x ∧ (midpoint a b).x ≤ max a.x b.x ∧
      min a.y b.y ≤ (midpoint a b).y ∧ (midpoint a b).y ≤ max a.y b.y ∧
      satPoint q.x q.y = q ∧ satPoint (midpoint a b).x (midpoint a b).y = midpoint a b ∧
      (0 < t → t < l → (t * dx).natAbs < 2 ^ 73 ∧ (t * dy).natAbs < 2 ^ 73)) ∧
    ((Shape.segment a b).features p).filter (fun fp => fp.feature = .near) = [⟨.near, 0, q⟩]

namespace Sys2Proof.Claims

/-- The subunit coordinate of one axis (R7), for the product of offset and gain and a display size: product/4096 rounded
half up where that lies on the display, 0 below it, 16·size − 1 above it. -/
def Calibrated (product size subunit : Int) : Prop :=
  (product < -2048 → subunit = 0) ∧
  (16 * size - 1 ≤ (product + 2048) / 4096 → subunit = 16 * size - 1) ∧
  (-2048 ≤ product → (product + 2048) / 4096 ≤ 16 * size - 1 →
    8192 * subunit - 4096 ≤ 2 * product ∧ 2 * product < 8192 * subunit + 4096) ∧
  0 ≤ subunit ∧ subunit ≤ 16 * size - 1

end Sys2Proof.Claims

/-- World saturation and the tablet mapping (R6 to R9): on each axis the subunit coordinate is the rounded product of
offset and gain, half up, brought onto the display; the cursor point is the view origin plus the rounded product of
subunit coordinate and scale, saturated, and lies in the world range at or above the view origin. -/
def Obligations.TabletMappingStaysOnTheDisplay : Prop :=
  (∀ x : Int, sat x = max (-8388608) (min 8388607 x)) ∧
  (∀ p : Point, p.inWorld = true ↔ -8388608 ≤ p.x ∧ p.x ≤ 8388607 ∧ -8388608 ≤ p.y ∧ p.y ≤ 8388607) ∧
  ∀ (st : Settings) (v : View) (f : TabletPoint), v.Legal →
    let px : Int := ((f.x.toNat : Int) - st.originX.toNat) * st.gainX.toNat
    let py : Int := ((f.y.toNat : Int) - st.originY.toNat) * st.gainY.toNat
    let sx := calibrate f.x.toNat st.originX.toNat st.gainX.toNat v.width
    let sy := calibrate f.y.toNat st.originY.toNat st.gainY.toNat v.height
    Calibrated px v.width sx ∧ Calibrated py v.height sy ∧
    cursorPoint st v f = ⟨sat (v.ox + (sx * v.scale + 2048) / 4096), sat (v.oy + (sy * v.scale + 2048) / 4096)⟩ ∧
    (cursorPoint st v f).inWorld = true ∧ v.ox ≤ (cursorPoint st v f).x ∧ v.oy ≤ (cursorPoint st v f).y

/-! ## The tool unit (chapter 7) -/

namespace Sys2Proof.Claims

/-- A commit holds its grant and has not begun, with nothing else competing (R126, R127; log 4). -/
def GrantedCommit (s : State) (e : QueueEntry) (b : ButtonName) : Prop :=
  Quiet s ∧ s.arbiter.holder = some .commit ∧ s.tool.commit = some ⟨e, b, true, false⟩

/-- A commit's resolution is in progress, with nothing else competing (R120, R130). -/
def ResolvingCommit (s : State) (e : QueueEntry) (b : ButtonName) (i : ResolutionInputs) : Prop :=
  Quiet s ∧ s.arbiter.holder = some .commit ∧ s.tool.commit = some ⟨e, b, true, true⟩ ∧
    s.resolver.resolution = some i

/-- The state after the end of a commit for a button (R126, R127): the press handled and the grant released. -/
def commitEnded (b : ButtonName) (s : State) : State :=
  { s with
    tool := { s.tool with commit := none }
    link := { s.link with queue := handled (buttonNumber b) s.link.queue }
    arbiter := { s.arbiter with holder := none } }

/-- The state with a record appended under the next sequence number (R141, R142). -/
def logged (r : CommitRecord) (s : State) : State :=
  { s with tool := { s.tool with
    log := s.tool.log ++ [{ r with seq := s.tool.sequence + 1 }], sequence := s.tool.sequence + 1 } }

/-- The state with tool context and drag figure after a press; a change requests a rebuild (R139). -/
def pressed (ctx : ToolContext) (d : Drag) (s : State) : State :=
  { s with
    tool := { s.tool with context := ctx, drag := d }
    builder := { s.builder with rebuild := s.builder.rebuild || ctx != s.tool.context || d != s.tool.drag } }

/-- The constraint anchor (R101): the last anchor of LINE and POLYLINE, the drag base of MOVE. -/
def anchorOf (tool : Tool) (ctx : ToolContext) (d : Drag) : Option Point :=
  match tool with
  | .line => if ctx.count = 0 then none else ctx.last
  | .polyline => if ctx.count = 0 then none else ctx.last
  | .move => d.base
  | _ => none

/-- A window claims a position: it is not OFF and the position lies in its cells (R47, R48). -/
def ClaimedBy (w : MenuWindow) (p : TabletPoint) : Prop :=
  w.mode ≠ 0 ∧ w.x0.toNat ≤ p.x.toNat ∧ p.x.toNat < w.x0.toNat + w.columns.toNat * w.width.toNat ∧
    w.y0.toNat ≤ p.y.toNat ∧ p.y.toNat < w.y0.toNat + w.rows.toNat * w.height.toNat

/-- The mode that a window's setting names (R46, R186). -/
def modeNamed (w : MenuWindow) : Mode := if w.mode = 1 then .menu else if w.mode = 2 then .noSnap else .gridOnly

/-- The cell under a position, counted along the rows (R47). -/
def cellUnder (w : MenuWindow) (p : TabletPoint) : BitVec 8 :=
  BitVec.ofNat 8 ((p.y.toNat - w.y0.toNat) / w.height.toNat * w.columns.toNat
    + (p.x.toNat - w.x0.toNat) / w.width.toNat)

/-- Context, COMPLETES and request for learning of a PLACE, by tool and count found (the table of section 7.3, R131 to
R133, R138). -/
def placeRow (tool : Tool) (ctx : ToolContext) (d : Drag) (s : Point) : ToolContext × Bool × Bool :=
  match tool with
  | .none => (ctx, false, false)
  | .move => (ctx, d.base.isSome, false)
  | .line => if ctx.count = 0 then (⟨1, some s, some s⟩, false, true) else (⟨0, none, none⟩, true, true)
  | .rect => if ctx.count = 0 then (⟨1, some s, some s⟩, false, true) else (⟨0, none, none⟩, true, true)
  | .circle => if ctx.count = 0 then (⟨1, some s, some s⟩, false, true) else (⟨0, none, none⟩, true, false)
  | .polyline =>
    if ctx.count = 0 then (⟨1, some s, some s⟩, false, true)
    else (⟨BitVec.ofNat 8 (min 255 (ctx.count.toNat + 1)), ctx.first, some s⟩, false, true)

end Sys2Proof.Claims

/-- COMMIT_START (R126): with an entry waiting, no commit waiting or in progress and the engine in RUN, the
lowest-numbered button is taken and COMMIT is requested, granted at once when the table is free; otherwise nothing
happens. Without its conditions it is no event (log 3); the operation begins at TABLE_GRANT (log 4). -/
def Obligations.CommitStartTakesTheLowestButton : Prop :=
  ∀ s : State,
    (s.engine = .resetting ∨ s.link.queue = [] ∨ s.tool.commit ≠ none → exec .commitStart s = .next s) ∧
    ∀ (e : QueueEntry) (rest : List QueueEntry) (b : ButtonName), s.link.queue = e :: rest →
      s.engine = .run → s.tool.commit = none →
      e.buttons.getLsbD (buttonNumber b) = true → (∀ n, n < buttonNumber b → e.buttons.getLsbD n = false) →
      let taken := { s with tool := { s.tool with commit := some ⟨e, b, true, false⟩ } }
      (s.arbiter.holder = none → (∀ r, s.arbiter.waiting.get r = false) → exec .commitStart s =
        .next { taken with arbiter := { s.arbiter with holder := some .commit } }) ∧
      (s.arbiter.holder ≠ none → exec .commitStart s = .next
        { taken with arbiter := { s.arbiter with waiting := { s.arbiter.waiting with commit := true } } })

/-- The refusals (R128, R129), tested in their order at the grant: LOG_FULL for every button with 16 records in the
log, COMMIT_REFUSED for every button but CANCEL under DEGRADED or OFFLINE; nothing but the notice, the handled press
and the released grant changes. The operation begins at TABLE_GRANT (log 4). -/
def Obligations.RefusedCommitIsRefusedWhole : Prop :=
  ∀ (s : State) (e : QueueEntry) (b : ButtonName), GrantedCommit s e b →
    (16 ≤ s.tool.log.length → exec .tableGrant s =
      .next (commitEnded b { s with appNotices := raised s.appNotices [(true, .logFull)] })) ∧
    (s.tool.log.length < 16 → 128 ≤ s.link.errors.toNat → b ≠ .cancel → exec .tableGrant s =
      .next (commitEnded b { s with appNotices := raised s.appNotices [(true, .commitRefused)] }))

/-- FINISH and CANCEL (R129, R134, R135): anchors cleared, in MOVE the figure and the base too; a record without S;
COMPLETES for a FINISH of a POLYLINE with two or more vertices alone. The operation begins at TABLE_GRANT (log 4).
-/
def Obligations.FinishAndCancelClearTheFigure : Prop :=
  ∀ (s : State) (e : QueueEntry) (b : ButtonName), GrantedCommit s e b → s.tool.log.length < 16 →
    b = .cancel ∨ (b = .finish ∧ s.link.errors.toNat < 128) →
    let tool := s.active.toolInForce
    let d := if tool = .move then ⟨none, []⟩ else s.tool.drag
    exec .tableGrant s = .next (commitEnded b (logged
      { seq := 0, kind := if b = .cancel then .cancel else .finish, tool := tool, count := 0, s := none,
        feature := .none, index := 0, target := none, learned := none, r := e.r, report := e.report,
        menu := none, learnSkipped := false,
        completes := b == .finish && tool == .polyline && decide (2 ≤ s.tool.context.count.toNat) }
      (pressed ⟨0, none, none⟩ d s)))

/-- TABLE_GRANT for a PLACE or an AUX that passes the tests (R51, R99 to R101, R130, R137): over a menu cell no
resolution is made, the capture is emptied, the tool context left, and the record carries window, cell and button;
otherwise the resolution starts with C from the entry's F under the current view, the decoding's mode, the active
settings, the current scale, the tool's anchor and the capture as it stands. The decoding (R46 to R48) is that of
window A when it claims the position, otherwise that of window B, otherwise NORMAL. The operation begins at
TABLE_GRANT (log 4). -/
def Obligations.GrantedPressPicksAMenuCellOrResolves : Prop :=
  (∀ (st : Settings) (p : TabletPoint),
    (ClaimedBy st.windowA p → decodeWindow st p = ⟨modeNamed st.windowA, some (.a, cellUnder st.windowA p)⟩) ∧
    (¬ ClaimedBy st.windowA p → ClaimedBy st.windowB p →
      decodeWindow st p = ⟨modeNamed st.windowB, some (.b, cellUnder st.windowB p)⟩) ∧
    (¬ ClaimedBy st.windowA p → ¬ ClaimedBy st.windowB p → decodeWindow st p = ⟨.normal, none⟩)) ∧
  ∀ (s : State) (e : QueueEntry) (b : ButtonName), GrantedCommit s e b →
    s.tool.log.length < 16 → s.link.errors.toNat < 128 → b = .place ∨ b = .aux →
    let tool := s.active.toolInForce
    let decoding := decodeWindow s.active e.f
    (∀ w cell, decoding = ⟨.menu, some (w, cell)⟩ → s.resolver.resolution = none →
      exec .tableGrant s = .next (commitEnded b (logged
        { seq := 0, kind := .menuPick, tool := tool, count := s.tool.context.count, s := none, feature := .none
          index := 0, target := none, learned := none, r := e.r, report := e.report
          menu := some ⟨w, cell, b == .aux⟩, completes := false, learnSkipped := false }
        { s with resolver := { s.resolver with capture := none } }))) ∧
    (decoding.mode ≠ .menu → exec .tableGrant s = .next { s with
      tool := { s.tool with commit := some ⟨e, b, true, true⟩ }
      resolver := ⟨s.resolver.capture, s.resolver.emptying,
        some ⟨cursorPoint s.active s.builder.view e.f, decoding.mode, s.active, s.builder.view.scale,
          anchorOf tool s.tool.context s.tool.drag, s.resolver.capture⟩⟩ })

/-- RESOLUTION_END for a press (R113, R127, R131 to R133, R136, R138 to R142): the capture follows the result. For a
PLACE the context follows the table of section 7.3, learning its rules, and the record carries S, feature, index,
both handles, COMPLETES and LEARN_SKIPPED; for an AUX the record carries the point, and the context is left as it
was. In RESETTING (R114, R145) the commit runs to that end with its learning and its record, and the event that waited
for it is made there: anchors, figure and base cleared, the log emptied with the new record, the sequence counter
advanced, the capture empty; the engine returns to RUN when no list is left in flight (R183; log 11). -/
def Obligations.ResolvedPressMakesItsRecord : Prop :=
  (∀ (s : State) (e : QueueEntry) (b : ButtonName) (i : ResolutionInputs), s.UpdateLaw → s.engine = .resetting →
    s.arbiter.holder = some .commit → s.tool.commit = some ⟨e, b, false, true⟩ → s.resolver.resolution = some i →
    b = .place ∨ b = .aux → s.applyPending = false → (∀ r, s.arbiter.waiting.get r = false) →
    let p := (resolve i s.table).s
    let row := placeRow s.active.toolInForce s.tool.context s.tool.drag p
    exec .resolutionEnd s = .next { s with
      engine := if s.update.inFlight = none then .run else .resetting
      appNotices := raised s.appNotices [(s.update.inFlight.isNone, .resetDone)]
      tool := ⟨⟨0, none, none⟩, ⟨none, []⟩, none, [], s.tool.sequence + 1⟩
      resolver := ⟨none, false, none⟩
      table :=
        if b = .place ∧ row.2.2 = true then
          (s.table.learn s.active.learnCap.toNat s.active.learnTag p).table
        else s.table
      builder := { s.builder with rebuild := true }
      arbiter := { s.arbiter with holder := none } }) ∧
  ∀ (s : State) (e : QueueEntry) (b : ButtonName) (i : ResolutionInputs), ResolvingCommit s e b i →
    let r := resolve i s.table
    let tool := s.active.toolInForce
    let resolver : Resolver := ⟨if s.resolver.emptying then none else captureOf r, false, none⟩
    let record : CommitRecord :=
      { seq := 0, kind := .aux, tool := tool, count := s.tool.context.count, s := some r.s, feature := r.feature
        index := r.index, target := r.handle, learned := none, r := e.r, report := e.report, menu := none
        completes := false, learnSkipped := false }
    let row := placeRow tool s.tool.context s.tool.drag r.s
    let o :=
      if row.2.2 then s.table.learn s.active.learnCap.toNat s.active.learnTag r.s else ⟨s.table, none, false⟩
    let placed := pressed row.1 s.tool.drag s
    (b = .aux → exec .resolutionEnd s = .next (commitEnded .aux (logged record { s with resolver := resolver }))) ∧
    (b = .place → exec .resolutionEnd s = .next (commitEnded .place (logged
      { record with
        kind := .place, count := row.1.count, learned := o.handle, completes := row.2.1, learnSkipped := o.skipped }
      { placed with
        resolver := resolver
        table := o.table
        builder := { placed.builder with
          rebuild := placed.builder.rebuild || o.table.generation != s.table.generation } })))

/-- COMMIT_POP (R144), by its code or its location, in either engine state: the oldest record leaves the log, an
empty log stays empty, nothing else changes but INDEX, which stands at the location written (log 5). With records in
the log a pop and an append commute; with the log empty the record stays when the pop is taken first, and leaves
when the append is. -/
def Obligations.CommitPopRemovesTheOldestRecord : Prop :=
  ∀ (s : State) (path : PopPath),
    let ports := { s.ports with appIndex := if path = .command then 0 else 0x5D }
    (s.tool.log = [] → exec (.commitPop path) s = .next { s with ports := ports } ∧
      ∀ r, ∃ t, exec (.commitPop path) (logged r s) = .next t ∧ t.tool.log = []) ∧
    ∀ r rest, s.tool.log = r :: rest →
      let popped := { s with tool := { s.tool with log := rest }, ports := ports }
      exec (.commitPop path) s = .next popped ∧
        ∀ new, exec (.commitPop path) (logged new s) = .next (logged new popped)

/-! ## The preview builder (chapter 8) -/

namespace Sys2Proof.Claims

/-- What a build start in this state copies (R150). -/
def copied (s : State) : Snapshot where
  settings := s.active
  view := s.builder.view
  viewGen := s.builder.viewGen
  condition := s.link.condition
  f := s.link.f
  report := s.link.report
  link := s.link.state
  context := s.tool.context
  drag := s.tool.drag
  lastDrawing := s.builder.lastDrawing

/-- The state after a build of a sort took a bank (R148). -/
def building (bank : Fin 3) (sort : BuildSort) (phase : BuildPhase) (s : State) : State :=
  { s with builder := { s.builder with
    rebuild := false
    banks := s.builder.banks.set bank.val { s.builder.banks[bank] with state := .building }
    build := some ⟨bank, s.builder.counter + 1, copied s, sort, phase⟩ } }

/-- A bank is the lowest-numbered FREE one (R148). -/
def LowestFree (s : State) (bank : Fin 3) : Prop :=
  (s.builder.banks[bank]).state = .free ∧ ∀ j : Fin 3, j < bank → (s.builder.banks[j]).state ≠ .free

/-- The range of a setting that is no half of a pair, by its place from the start of its block (R186). -/
def rangeAt (place : Nat) : Nat × Nat :=
  match place with
  | 0x00 => (0, 16383)
  | 0x01 => (0, 16383)
  | 0x02 => (1, 65535)
  | 0x03 => (1, 65535)
  | 0x04 => (0, 7)
  | 0x05 => (0, 15)
  | 0x06 => (0, 7)
  | 0x07 => (1, 16)
  | 0x08 => (0, 3)
  | 0x0A => (0, 2)
  | 0x0B => (0, 1)
  | 0x0D => (1, 63)
  | 0x0E => (1, 4)
  | 0x0F => (0, 1)
  | 0x10 => (0, 1)
  | 0x11 => (4, 255)
  | 0x12 => (2, 15)
  | 0x14 => (0, 32)
  | 0x20 => (0, 1)
  | 0x23 => (0, 1)
  | 0x26 => (0, 1)
  | 0x29 => (0, 1)
  | 0x30 => (0, 3)
  | 0x31 => (0, 16383)
  | 0x32 => (0, 16383)
  | 0x33 => (8, 2048)
  | 0x34 => (8, 2048)
  | 0x35 => (1, 16)
  | 0x36 => (1, 16)
  | 0x38 => (0, 3)
  | 0x39 => (0, 16383)
  | 0x3A => (0, 16383)
  | 0x3B => (8, 2048)
  | 0x3C => (8, 2048)
  | 0x3D => (1, 16)
  | 0x3E => (1, 16)
  | _ => (0, 65535)

/-- A staged value at the taking (R186): a tool code above 5 is held, bits 15..7 of the feature enables are dropped,
the chord count goes to the nearest of three, with 24 to 32 and 48 to 64, and every other value to the nearest of its
range. -/
def atTaking (active : Half) (place : Nat) (v : Half) : Half :=
  if place = 0x09 then if v.toNat ≤ 5 then v else active
  else if place = 0x0C then BitVec.ofNat 16 (v.toNat % 128)
  else if place = 0x13 then if v.toNat < 24 then 16 else if v.toNat < 48 then 32 else 64
  else BitVec.ofNat 16 (max (rangeAt place).1 (min (rangeAt place).2 v.toNat))

/-- The state after the taking of a pending apply (R31, R37, R42, R73, R124, R185, R186). -/
def applied (s : State) : State :=
  let new := s.staged.clamped s.active.tool
  let device := decide (new.activeDevice ≠ s.active.activeDevice)
  { s with
    active := new
    applyPending := false
    tool := if new.tool = s.active.tool then s.tool
      else { s.tool with context := ⟨0, none, none⟩, drag := ⟨none, []⟩ }
    table := s.table.trim new.learnCap.toNat
    link := { s.link with
      assembler := if new.linkRate = s.active.linkRate then s.link.assembler else .hunt
      condition := if device then .none else s.link.condition
      fValid := if device then false else s.link.fValid
      buttons := if device then Vector.replicate 4 ⟨false, none⟩ else s.link.buttons }
    appNotices := raised s.appNotices
      [(device && (s.link.presence[new.device] == .absent) != (s.link.presence[s.active.device] == .absent),
          .presenceChange),
        (true, .settingsApplied), (decide (5 < s.staged.tool.toNat), .settingHeld)]
    builder := { s.builder with rebuild := true } }

end Sys2Proof.Claims

/-- BUILD_START without an apply (R148, R150 to R152): with the flag set, no build in flight and the engine in RUN,
the lowest FREE bank is taken and the flag cleared; an absent build composes, a menu build empties the capture and
composes, a cursor build requests its grant. Without its conditions it is no event (log 3). BUILD_START is a step of
its own, and a cursor build granted at once begins its resolution at TABLE_GRANT (log 4). -/
def Obligations.BuildStartTakesTheLowestFreeBank : Prop :=
  ∀ s : State,
    (s.builder.rebuild = false ∨ s.builder.build ≠ none ∨ s.engine = .resetting → exec .buildStart s = .next s) ∧
    ∀ bank, LowestFree s bank → s.builder.rebuild = true → s.builder.build = none → s.engine = .run →
      s.applyPending = false →
      let composing := BuildPhase.composing none s.table.generation
      let decoding := decodeWindow s.active s.link.f
      (s.link.condition ≠ .inside → exec .buildStart s = .next (building bank .absent composing s)) ∧
      (∀ w cell, s.link.condition = .inside → decoding = ⟨.menu, some (w, cell)⟩ → exec .buildStart s = .next
        { building bank (.menu w cell) composing s with
          resolver :=
            if s.resolver.resolution = none then { s.resolver with capture := none }
            else { s.resolver with emptying := true } }) ∧
      (s.link.condition = .inside → decoding.mode ≠ .menu →
        let waiting :=
          building bank (.cursor (cursorPoint s.active s.builder.view s.link.f) decoding.mode) .waiting s
        (s.arbiter.holder = none → (∀ r, s.arbiter.waiting.get r = false) → exec .buildStart s = .next
          { waiting with arbiter := { s.arbiter with holder := some .build, turn := .build } }) ∧
        (s.arbiter.holder ≠ none → exec .buildStart s = .next
          { waiting with arbiter := { s.arbiter with waiting := { s.arbiter.waiting with build := true } } }))

/-- The taking of an apply (R73, R124, R149, R185, R186): at a build start, which waits while a grant is held and is
then made at its release, before the next grant (log 8), its request competing there (log 24); and at a commit's begin
under its grant, before anything else (log 4). The trim releases the oldest learned points beyond the new LEARN_CAP.
Each value is brought into its range: one in range is copied as written, one outside goes to the nearest bound; the
codes 0 to 5 name the tools. -/
def Obligations.ApplyIsTakenFirst : Prop :=
  (∀ st : Settings, ∀ e ∈ [((0 : Half), Tool.none), (1, .line), (2, .polyline), (3, .rect), (4, .circle), (5, .move)],
    st.tool = e.1 → st.toolInForce = e.2) ∧
  (∀ (st : Settings) (active : Half),
    settingPlaces (st.clamped active) = (settingPlaces st).map (fun e => (e.1, atTaking active e.1 e.2)) ∧
    (st.clamped active).gridX.toInt = max (-8388608) (min 8388607 st.gridX.toInt) ∧
    (st.clamped active).gridY.toInt = max (-8388608) (min 8388607 st.gridY.toInt)) ∧
  ∀ s : State, s.applyPending = true →
    (∀ (release : Instr) (t : State),
      release = .resolutionEnd ∨ release = .cellApplication ∨ release = .pickCompletion → s.arbiter.holder ≠ none →
      exec release { s with
        applyPending := false
        arbiter := { s.arbiter with waiting := ⟨false, false, false, false, false⟩ } } = .next t →
      t.arbiter.holder = none →
      ∃ t', exec .buildStart { t with
          applyPending := true, arbiter := { t.arbiter with waiting := s.arbiter.waiting } } = .next t' ∧
        exec release s = .next (arbitrate t')) ∧
    (s.builder.rebuild = true → s.builder.build = none → s.engine = .run →
      (s.arbiter.holder ≠ none → exec .buildStart s = .next s) ∧
      (s.arbiter.holder = none → ∀ bank, LowestFree s bank →
        exec .buildStart s = exec .buildStart (applied s))) ∧
    (∀ e b q, s.arbiter.holder = some .commit → s.tool.commit = some ⟨e, b, q, false⟩ →
      exec .tableGrant s = exec .tableGrant (applied s)) ∧
    (s.TableLaw →
      let cap := (s.staged.clamped s.active.tool).learnCap.toNat
      let t := (applied s).table
      let gone := s.table.learned.take (s.table.learned.length - cap)
      t.learned = s.table.learned.drop (s.table.learned.length - cap) ∧ Released s.table t (· ∈ gone) ∧
        (∀ n ∈ gone, EnteredNowhere t n) ∧ Counted s.table t (cap < s.table.learned.length))

/-- A cursor build under its grant (R100, R113, R152): TABLE_GRANT starts its resolution with the inputs of its
snapshot, and RESOLUTION_END hands the result and the table generation to the composition and releases the grant.
The operation begins at TABLE_GRANT (log 4). -/
def Obligations.BuildResolvesUnderItsGrant : Prop :=
  ∀ (s : State) (b : Build) (c : Point) (mode : Mode), s.builder.build = some b → b.sort = .cursor c mode →
    s.arbiter.holder = some .build →
    let snap := b.snapshot
    (b.phase = .waiting → exec .tableGrant s = .next { s with
      builder := { s.builder with build := some { b with phase := .resolving } }
      resolver := ⟨s.resolver.capture, s.resolver.emptying,
        some ⟨c, mode, snap.settings, snap.view.scale,
          anchorOf snap.settings.toolInForce snap.context snap.drag, s.resolver.capture⟩⟩ }) ∧
    (b.phase = .resolving → (∀ r, s.arbiter.waiting.get r = false) → ∀ i, s.resolver.resolution = some i →
      let r := resolve i s.table
      exec .resolutionEnd s = .next { s with
        builder := { s.builder with build := some { b with phase := .composing (some r) s.table.generation } }
        resolver := ⟨if s.resolver.emptying then none else captureOf r, false, none⟩
        arbiter := { s.arbiter with holder := none } })

/-- BUILD_COMPLETION (R153, R154, R163): the BUILDING bank becomes READY with the composed entries before what it held
beyond them, an older READY bank FREE, counter and last drawing point follow, and FRAME_READY is raised. The entries
are those of CursorPictureHasItsElements. -/
def Obligations.BuildCompletionMakesItsBankReady : Prop :=
  ∀ (s : State) (b : Build) (result : Option Resolution) (gen : Half), s.builder.build = some b →
    b.phase = .composing result gen →
    let entries := compose b result gen
    exec .buildCompletion s = .next { s with
      dispNotices := { s.dispNotices with raised := s.dispNotices.raised ||| 1 }
      builder := { s.builder with
        banks := Vector.ofFn fun i =>
          let bank := s.builder.banks[i]
          if i = b.bank then ⟨.ready, entries ++ bank.entries.drop entries.length⟩
          else if bank.state = .ready then { bank with state := .free } else bank
        build := none
        counter := b.number
        lastDrawing :=
          match b.sort, result with
          | .cursor _ _, some r => some r.s
          | _, _ => s.builder.lastDrawing } }

namespace Sys2Proof.Claims

/-- A MOVE to the first point and DRAWs to the rest (section 8.3). -/
def strokes (style : Style) (layer : Layer) (l : List Point) : List Entry :=
  (l.take 1).map (fun p => .move p style layer) ++ (l.drop 1).map fun p => .draw p style layer

/-- A point, world-saturated (R6). -/
def satAt (x y : Int) : Point := ⟨sat x, sat y⟩

/-- Crosshair and aperture box about C (R157, R158). -/
def aboutCursor (snap : Snapshot) (c : Point) (mode : Mode) : List Entry :=
  let st := snap.settings
  let v := snap.view
  let style : Style := if snap.link = .offline then .dotted else .solid
  let arm := (st.arm.toNat * v.scale + 255) / 256
  let apw := (st.aperture.toNat * v.scale + 255) / 256
  let far := fun (o size : Int) => sat (o + (size * v.scale + 128) / 256)
  (if st.crosshair = 0 then
    [.move ⟨v.ox, c.y⟩ style .cursor, .draw ⟨far v.ox v.width, c.y⟩ style .cursor,
      .move ⟨c.x, v.oy⟩ style .cursor, .draw ⟨c.x, far v.oy v.height⟩ style .cursor]
  else
    [.move (satAt (c.x - arm) c.y) style .cursor, .draw (satAt (c.x + arm) c.y) style .cursor,
      .move (satAt c.x (c.y - arm)) style .cursor, .draw (satAt c.x (c.y + arm)) style .cursor]) ++
  if mode = .normal ∧ st.showAperture ≠ 0 then
    strokes .solid .aperture
      [satAt (c.x - apw) (c.y - apw), satAt (c.x + apw) (c.y - apw), satAt (c.x + apw) (c.y + apw),
        satAt (c.x - apw) (c.y + apw), satAt (c.x - apw) (c.y - apw)]
  else []

/-- The marker at S (R159). -/
def markerAt (snap : Snapshot) (f : Feature) (s : Point) : List Entry :=
  let m := (snap.settings.marker.toNat * snap.view.scale + 255) / 256
  let h := (m + 1) / 2
  let glyph := fun l : List (Int × Int) => strokes .bright .marker (l.map fun d => satAt (s.x + d.1) (s.y + d.2))
  match f with
  | .none => []
  | .node => glyph [(-m, -m), (m, -m), (m, m), (-m, m), (-m, -m)]
  | .endPoint => glyph [(-m, -m), (m, -m), (m, m), (-m, m), (-m, -m)]
  | .mid => glyph [(-m, -m), (m, -m), (0, m), (-m, -m)]
  | .center => glyph [(m, -h), (m, h), (h, m), (-h, m), (-m, h), (-m, -h), (-h, -m), (h, -m), (m, -h)]
  | .quad => glyph [(m, 0), (0, m), (-m, 0), (0, -m), (m, 0)]
  | .near => glyph [(-m, m), (m, m), (-m, -m), (m, -m), (-m, m)]
  | .grid => glyph [(-m, 0), (m, 0)] ++ glyph [(0, -m), (0, m)]

/-- The cosine table (R21). -/
def cosineAt (k : Nat) : Int :=
  [65536, 65220, 64277, 62714, 60547, 57798, 54491, 50660, 46341, 41576, 36410, 30893, 25080, 19024, 12785, 6424,
    0].getD k 0

/-- Vertex j of the n-chord circle with centre c and radius r (R22). -/
def vertex (c : Point) (r : Int) (n j : Nat) : Point :=
  let a := j * (64 / n)
  let t := cosineAt (a % 16)
  let u := cosineAt (16 - a % 16)
  let d : Int × Int :=
    if a / 16 = 0 then (t, u) else if a / 16 = 1 then (-u, t) else if a / 16 = 2 then (-t, -u) else (u, -t)
  satAt (c.x + roundHalfAway (r * d.1) 65536) (c.y + roundHalfAway (r * d.2) 65536)

/-- The rubber band or the drag figure to E (R160 to R162). -/
def bandTo (snap : Snapshot) (e : Point) : List Entry :=
  let st := snap.settings
  let ctx := snap.context
  let one : Bool := ctx.count == 1
  match st.toolInForce, ctx.first, ctx.last, snap.drag.base with
  | .none, _, _, _ => []
  | .line, _, last, _ => (last.map fun p => if ctx.count = 0 then [] else strokes .solid .rubber [p, e]).getD []
  | .polyline, first, last, _ =>
    (last.map fun p => if ctx.count = 0 then [] else strokes .solid .rubber [p, e]).getD [] ++
    (first.map fun p =>
      if 2 ≤ ctx.count.toNat ∧ st.closeHint ≠ 0 then strokes .dashed .rubber [e, p] else []).getD []
  | .rect, first, _, _ =>
    (first.map fun a =>
      if one then strokes .solid .rubber [a, ⟨e.x, a.y⟩, e, ⟨a.x, e.y⟩, a] else []).getD []
  | .circle, first, _, _ =>
    (first.map fun c =>
      let n := st.chords.toNat
      let ring := (List.range n).map (vertex c (circleRadius c e) n) ++ [vertex c (circleRadius c e) n 0]
      if one then strokes .dotted .rubber [c, e] ++ strokes .solid .rubber ring else []).getD []
  | .move, _, _, base =>
    (base.map fun b => strokes .dotted .rubber [b, e] ++ snap.drag.figure.flatMap fun g =>
      strokes .dashed .drag [satAt (e.x + g.o0.x) (e.y + g.o0.y), satAt (e.x + g.o1.x) (e.y + g.o1.y)]).getD []

end Sys2Proof.Claims

/-- The picture of a build (R153 to R162), its elements in their order. A cursor build: HEADER, CURSOR_INFO with S and
feature, the crosshair and the aperture box about C, the marker at S, the rubber band or the drag figure to S, END. A
menu build and an absent build: HEADER, CURSOR_INFO of no feature, the band to the last drawing point when the snapshot
holds one, END. -/
def Obligations.CursorPictureHasItsElements : Prop :=
  ∀ (b : Build) (gen : Half),
    let snap := b.snapshot
    let header := fun (menu : Option (MenuId × BitVec 8)) (captured constrained : Bool) =>
      Entry.header ⟨b.number, snap.report, snap.viewGen, gen, b.sort == .absent, snap.link, menu, captured, constrained⟩
    let still := Entry.cursorInfo ⟨0, 0⟩ .none :: (snap.lastDrawing.map (bandTo snap)).getD [] ++ [.endMark]
    (∀ c mode r, b.sort = .cursor c mode → compose b (some r) gen =
      header none r.captured r.constrained :: .cursorInfo r.s r.feature :: aboutCursor snap c mode
        ++ markerAt snap r.feature r.s ++ bandTo snap r.s ++ [.endMark]) ∧
    (∀ w cell, b.sort = .menu w cell → compose b none gen = header (some (w, cell)) false false :: still) ∧
    (b.sort = .absent → compose b none gen = header none false false :: still)

/-- STAGED_VIEW_WRITE and FRAME_START (R165, R166): a field is stored as written with the staged-written flag; a
frame start commits the staged view clamped when the flag is set, shows the READY bank, and returns the stream
pointer to word 0. INDEX stands where the access leaves it (log 5). -/
def Obligations.FrameStartShowsTheReadyBank : Prop :=
  ∀ (s : State) (v : Word),
    let b := s.builder
    (∀ field, ∃ staged index, exec (.stagedViewWrite field v) s = .next { s with
        builder := { b with staged := staged, stagedWritten := true }
        ports := { s.ports with dispIndex := index } } ∧
      (staged, index) = match field with
        | .ox => ({ b.staged with ox := v }, 0x11)
        | .oy => ({ b.staged with oy := v }, 0x12)
        | .scale => ({ b.staged with scale := v }, 0x13)
        | .width => ({ b.staged with width := v }, 0x14)
        | .height => ({ b.staged with height := v }, 0x15)) ∧
    let st := b.staged
    let view : View :=
      ⟨max (-8388608) (min 8388607 st.ox.toInt), max (-8388608) (min 8388607 st.oy.toInt),
        max 1 (min 16777215 st.scale.toInt), max 1 (min 4096 st.width.toInt), max 1 (min 4096 st.height.toInt)⟩
    let asWritten : View := ⟨st.ox.toInt, st.oy.toInt, st.scale.toInt, st.width.toInt, st.height.toInt⟩
    let ready := ∃ i : Fin 3, (b.banks[i]).state = .ready
    ∃ banks : Vector Bank 3,
      (∀ i : Fin 3, (banks[i]).entries = (b.banks[i]).entries ∧
        (¬ ready → (banks[i]).state = (b.banks[i]).state) ∧
        (ready → (banks[i]).state =
          if (b.banks[i]).state = .ready then .shown
          else if (b.banks[i]).state = .shown then .free else (b.banks[i]).state)) ∧
      exec (.frameStart v) s = .next { s with
        dispNotices :=
          if b.stagedWritten = true ∧ view ≠ asWritten then
            { s.dispNotices with raised := s.dispNotices.raised ||| 4 }
          else s.dispNotices
        builder := { b with
          view := if b.stagedWritten then view else b.view
          viewGen := if b.stagedWritten then b.viewGen + 1 else b.viewGen
          rebuild := b.rebuild || b.stagedWritten
          stagedWritten := false
          banks := banks
          streamPtr := 0 }
        ports := { s.ports with dispIndex := 8 } }

namespace Sys2Proof.Claims

/-- Word 0 of a MOVE or a DRAW (R193). -/
def strokeForm (type : Nat) (style : Style) (layer : Layer) : Word :=
  BitVec.ofNat 32 (2 ^ 28 * type + 256 * [Style.solid, .dashed, .dotted, .bright].idxOf style
    + [Layer.cursor, .aperture, .marker, .rubber, .drag].idxOf layer)

/-- The three words of an entry (R193). -/
def entryWords : Entry → List Word
  | .header h =>
    [BitVec.ofNat 32 (65536 * h.viewGen.toNat + h.build.toNat),
      BitVec.ofNat 32 (65536 * h.report.toNat + h.tableGen.toNat),
      BitVec.ofNat 32 (flag h.absent + 2 * flag (h.link == .degraded) + 4 * flag (h.link == .offline)
        + 8 * flag h.menu.isSome + 16 * flag h.captured + 32 * flag h.constrained
        + 256 * (h.menu.map fun m => windowNumber m.1).getD 0 + 65536 * (h.menu.map fun m => m.2.toNat).getD 0)]
  | .cursorInfo p f => [BitVec.ofNat 32 (2 ^ 28 + featureNumber f), word32 p.x, word32 p.y]
  | .move p style layer => [strokeForm 2 style layer, word32 p.x, word32 p.y]
  | .draw p style layer => [strokeForm 3 style layer, word32 p.x, word32 p.y]
  | .endMark => [0x40000000, 0, 0]

end Sys2Proof.Claims

/-- STREAM and STREAM_REWIND (R154, R167, R193): the reads yield the words of the SHOWN bank up to and with END, three
for each entry, then the END type, with the pointer held; a rewind returns the pointer to word 0. The words of an
entry are laid out by R193, with 0 in the bits it gives to no field (log 12). INDEX stands where the access leaves it
(log 5), and the word read in dispData (log 6). -/
def Obligations.StreamReadsTheShownBank : Prop :=
  (∀ e : Entry, e.words = entryWords e) ∧
  (∀ l rest : List Entry, Entry.endMark ∉ l →
    upToEnd (l ++ .endMark :: rest) = l ++ [.endMark] ∧ upToEnd l = l) ∧
  ∀ (s : State) (i : Fin 3) (v : Word), s.builder.BanksLaw → (s.builder.banks[i]).state = .shown →
    let words := (upToEnd (s.builder.banks[i]).entries).flatMap Entry.words
    words.length = 3 * (upToEnd (s.builder.banks[i]).entries).length ∧
    (∀ w, words[s.builder.streamPtr]? = some w → exec .stream s = .next { s with
      builder := { s.builder with streamPtr := s.builder.streamPtr + 1 }
      ports := { s.ports with dispIndex := 9, dispData := w } }) ∧
    (s.builder.streamPtr = words.length → exec .stream s = .next { s with
      ports := { s.ports with dispIndex := 9, dispData := 0x40000000 } }) ∧
    exec (.streamRewind v) s = .next { s with
      builder := { s.builder with streamPtr := 0 }, ports := { s.ports with dispIndex := 0x0B } }

/-! ## Pick queries (chapter 9) -/

namespace Sys2Proof.Claims

/-- INDEX after an access at an input of a slot or at GO (R179, R195, R196; log 5). -/
def indexPast (i : PickId) (input : PickInput) (p : Ports) : Ports :=
  let next := BitVec.ofNat 16 (pickFirst i + (pickInputs i).idxOf input + 1)
  match i with
  | .pick0 => { p with appIndex := next }
  | .pick1 => { p with dispIndex := next }

/-- The requester and the turn of a slot (R173). -/
def slotTurn : PickId → Turn
  | .pick0 => .pick0
  | .pick1 => .pick1

/-- A slot after a write of an input (R171, R180): a half of a coordinate changes that half. -/
def stored (input : PickInput) (v : Word) (p : PickSlot) : PickSlot :=
  let low := v.extractLsb' 0 16
  match input with
  | .xLow => { p with x := p.x.extractLsb' 16 16 ++ low }
  | .xHigh => { p with x := low ++ p.x.extractLsb' 0 16 }
  | .yLow => { p with y := p.y.extractLsb' 16 16 ++ low }
  | .yHigh => { p with y := low ++ p.y.extractLsb' 0 16 }
  | .x => { p with x := v }
  | .y => { p with y := v }
  | .aperture => { p with aperture := v }
  | .choice => { p with choice := v }
  | .mask => { p with mask := low }
  | .matchTag => { p with matchTag := low }
  | .enables => { p with enables := v.extractLsb' 0 6 }
  | .go => p

end Sys2Proof.Claims

/-- PICK_GO and PICK_BLOCKED_WRITE (R171, R173, R174): GO of an IDLE slot clears its results and requests the table,
which is granted at once when it is free; while the slot is busy any write to an input or GO only sets
WRITE_BLOCKED; while it is IDLE a write of an input stores it and a write of 0 to GO changes nothing. INDEX stands
past the location written (log 5); a slot granted at once enters SEARCHING with its grant (log 4); at slot 0 the low
16 bits of the value count, and of a narrow location the low bits (log 17). -/
def Obligations.PickGoStartsASearchOrIsBlocked : Prop :=
  ∀ (s : State) (i : PickId),
    let p := s.pick i
    let go := indexPast i .go s.ports
    let started := fun control => s.withPick i { p with
      found := false, handle := none, feature := .none, index := 0, point := ⟨0, 0⟩
      aborted := false, blocked := false, control := control }
    let blocked := s.withPick i { p with blocked := true }
    (p.control ≠ .idle →
      exec (.pickGo i) s = .next { blocked with ports := go } ∧
      ∀ input v, input ∈ pickInputs i →
        exec (.pickBlockedWrite i input v) s = .next { blocked with ports := indexPast i input s.ports }) ∧
    (p.control = .idle →
      (s.arbiter.holder = none → (∀ r, s.arbiter.waiting.get r = false) → exec (.pickGo i) s = .next
        { started .searching with
          arbiter := { s.arbiter with holder := some (slotTurn i).requester, turn := slotTurn i }, ports := go }) ∧
      (s.arbiter.holder ≠ none → exec (.pickGo i) s = .next
        { started .waiting with
          arbiter := { s.arbiter with waiting := s.arbiter.waiting.set (slotTurn i).requester true }
          ports := go }) ∧
      (∀ v : Word, v.toNat % 2 = 0 → exec (.pickBlockedWrite i .go v) s = .next { s with ports := go }) ∧
      (∀ v : Word, v.toNat % 2 = 1 → exec (.pickBlockedWrite i .go v) s = exec (.pickGo i) s) ∧
      ∀ input v, input ∈ pickInputs i → input ≠ .go → exec (.pickBlockedWrite i input v) s = .next
        { s.withPick i (stored input (if i = .pick0 then (v.extractLsb' 0 16).setWidth 32 else v) p) with
          ports := indexPast i input s.ports })

/-- PICK_COMPLETION (R171, R172, R175, R176): the best candidate about the saturated point, within the aperture
taken as 1 to 65535, under the chosen filter's mask and match, goes to the result fields; the slot becomes IDLE, the
notice is raised, the grant released. -/
def Obligations.PickCompletionHandsBackTheBest : Prop :=
  ∀ (s : State) (i : PickId), (s.pick i).control = .searching → s.arbiter.holder = some (slotTurn i).requester →
    (∀ r, s.arbiter.waiting.get r = false) → s.engine = .resetting ∨ s.applyPending = false →
    let p := s.pick i
    let q : Point := ⟨sat p.x.toInt, sat p.y.toInt⟩
    let radius : Int := max 1 (min 65535 p.aperture.toNat)
    let filter : Half × Half :=
      if h : p.choice.toNat < 4 then
        ((s.active.filters[p.choice.toNat]).mask, (s.active.filters[p.choice.toNat]).matchTag)
      else (p.mask, p.matchTag)
    let best := bestCandidate (candidates s.table q radius
      (fun tag => tag &&& filter.1 == filter.2 &&& filter.1)
      (fun f => match f with
        | .node => p.enables.getLsbD 0
        | .endPoint => p.enables.getLsbD 1
        | .mid => p.enables.getLsbD 2
        | .center => p.enables.getLsbD 3
        | .quad => p.enables.getLsbD 4
        | .near => p.enables.getLsbD 5
        | _ => false))
    let answered : PickSlot :=
      match best with
      | some c => { p with
          found := true, handle := some c.ref.handle, feature := c.ref.feature, index := c.ref.index
          point := c.point, aborted := false, control := .idle }
      | none => { p with
          found := false, handle := none, feature := .none, index := 0, point := ⟨0, 0⟩
          aborted := false, control := .idle }
    let t := { s.withPick i answered with arbiter := { s.arbiter with holder := none } }
    exec .pickCompletion s = .next
      (if i = .pick0 then { t with appNotices := raised s.appNotices [(true, .pick0Done)] }
       else { t with dispNotices := { s.dispNotices with raised := s.dispNotices.raised ||| 2 } })
end

