-- ==== Sys2Proof/Laws/State.lean ====
section
/-! SUPPORT. One lemma for each field of `State` under each of its updates, so that no later proof unfolds a record
update. -/

namespace Sys2Proof.Machine

/-! ## `State.withLink` -/

@[simp] theorem State.withLink_link (s : State) (v : Link) : (s.withLink v).link = v := rfl
@[simp] theorem State.withLink_staged (s : State) (v : Link) : (s.withLink v).staged = s.staged := rfl
@[simp] theorem State.withLink_active (s : State) (v : Link) : (s.withLink v).active = s.active := rfl
@[simp] theorem State.withLink_applyPending (s : State) (v : Link) : (s.withLink v).applyPending = s.applyPending := rfl
@[simp] theorem State.withLink_engine (s : State) (v : Link) : (s.withLink v).engine = s.engine := rfl
@[simp] theorem State.withLink_table (s : State) (v : Link) : (s.withLink v).table = s.table := rfl
@[simp] theorem State.withLink_arbiter (s : State) (v : Link) : (s.withLink v).arbiter = s.arbiter := rfl
@[simp] theorem State.withLink_update (s : State) (v : Link) : (s.withLink v).update = s.update := rfl
@[simp] theorem State.withLink_resolver (s : State) (v : Link) : (s.withLink v).resolver = s.resolver := rfl
@[simp] theorem State.withLink_tool (s : State) (v : Link) : (s.withLink v).tool = s.tool := rfl
@[simp] theorem State.withLink_builder (s : State) (v : Link) : (s.withLink v).builder = s.builder := rfl
@[simp] theorem State.withLink_pick0 (s : State) (v : Link) : (s.withLink v).pick0 = s.pick0 := rfl
@[simp] theorem State.withLink_pick1 (s : State) (v : Link) : (s.withLink v).pick1 = s.pick1 := rfl
@[simp] theorem State.withLink_appNotices (s : State) (v : Link) : (s.withLink v).appNotices = s.appNotices := rfl
@[simp] theorem State.withLink_dispNotices (s : State) (v : Link) : (s.withLink v).dispNotices = s.dispNotices := rfl
@[simp] theorem State.withLink_ports (s : State) (v : Link) : (s.withLink v).ports = s.ports := rfl
@[simp] theorem State.withLink_masterWrites (s : State) (v : Link) : (s.withLink v).masterWrites = s.masterWrites := rfl
@[simp] theorem State.withLink_pending (s : State) (v : Link) : (s.withLink v).pending = s.pending := rfl

/-! ## `State.withArbiter` -/

@[simp] theorem State.withArbiter_link (s : State) (v : Arbiter) : (s.withArbiter v).link = s.link := rfl
@[simp] theorem State.withArbiter_staged (s : State) (v : Arbiter) : (s.withArbiter v).staged = s.staged := rfl
@[simp] theorem State.withArbiter_active (s : State) (v : Arbiter) : (s.withArbiter v).active = s.active := rfl
@[simp] theorem State.withArbiter_applyPending (s : State) (v : Arbiter) : (s.withArbiter v).applyPending = s.applyPending := rfl
@[simp] theorem State.withArbiter_engine (s : State) (v : Arbiter) : (s.withArbiter v).engine = s.engine := rfl
@[simp] theorem State.withArbiter_table (s : State) (v : Arbiter) : (s.withArbiter v).table = s.table := rfl
@[simp] theorem State.withArbiter_arbiter (s : State) (v : Arbiter) : (s.withArbiter v).arbiter = v := rfl
@[simp] theorem State.withArbiter_update (s : State) (v : Arbiter) : (s.withArbiter v).update = s.update := rfl
@[simp] theorem State.withArbiter_resolver (s : State) (v : Arbiter) : (s.withArbiter v).resolver = s.resolver := rfl
@[simp] theorem State.withArbiter_tool (s : State) (v : Arbiter) : (s.withArbiter v).tool = s.tool := rfl
@[simp] theorem State.withArbiter_builder (s : State) (v : Arbiter) : (s.withArbiter v).builder = s.builder := rfl
@[simp] theorem State.withArbiter_pick0 (s : State) (v : Arbiter) : (s.withArbiter v).pick0 = s.pick0 := rfl
@[simp] theorem State.withArbiter_pick1 (s : State) (v : Arbiter) : (s.withArbiter v).pick1 = s.pick1 := rfl
@[simp] theorem State.withArbiter_appNotices (s : State) (v : Arbiter) : (s.withArbiter v).appNotices = s.appNotices := rfl
@[simp] theorem State.withArbiter_dispNotices (s : State) (v : Arbiter) : (s.withArbiter v).dispNotices = s.dispNotices := rfl
@[simp] theorem State.withArbiter_ports (s : State) (v : Arbiter) : (s.withArbiter v).ports = s.ports := rfl
@[simp] theorem State.withArbiter_masterWrites (s : State) (v : Arbiter) : (s.withArbiter v).masterWrites = s.masterWrites := rfl
@[simp] theorem State.withArbiter_pending (s : State) (v : Arbiter) : (s.withArbiter v).pending = s.pending := rfl

/-! ## `State.withUpdate` -/

@[simp] theorem State.withUpdate_link (s : State) (v : UpdateEngine) : (s.withUpdate v).link = s.link := rfl
@[simp] theorem State.withUpdate_staged (s : State) (v : UpdateEngine) : (s.withUpdate v).staged = s.staged := rfl
@[simp] theorem State.withUpdate_active (s : State) (v : UpdateEngine) : (s.withUpdate v).active = s.active := rfl
@[simp] theorem State.withUpdate_applyPending (s : State) (v : UpdateEngine) : (s.withUpdate v).applyPending = s.applyPending := rfl
@[simp] theorem State.withUpdate_engine (s : State) (v : UpdateEngine) : (s.withUpdate v).engine = s.engine := rfl
@[simp] theorem State.withUpdate_table (s : State) (v : UpdateEngine) : (s.withUpdate v).table = s.table := rfl
@[simp] theorem State.withUpdate_arbiter (s : State) (v : UpdateEngine) : (s.withUpdate v).arbiter = s.arbiter := rfl
@[simp] theorem State.withUpdate_update (s : State) (v : UpdateEngine) : (s.withUpdate v).update = v := rfl
@[simp] theorem State.withUpdate_resolver (s : State) (v : UpdateEngine) : (s.withUpdate v).resolver = s.resolver := rfl
@[simp] theorem State.withUpdate_tool (s : State) (v : UpdateEngine) : (s.withUpdate v).tool = s.tool := rfl
@[simp] theorem State.withUpdate_builder (s : State) (v : UpdateEngine) : (s.withUpdate v).builder = s.builder := rfl
@[simp] theorem State.withUpdate_pick0 (s : State) (v : UpdateEngine) : (s.withUpdate v).pick0 = s.pick0 := rfl
@[simp] theorem State.withUpdate_pick1 (s : State) (v : UpdateEngine) : (s.withUpdate v).pick1 = s.pick1 := rfl
@[simp] theorem State.withUpdate_appNotices (s : State) (v : UpdateEngine) : (s.withUpdate v).appNotices = s.appNotices := rfl
@[simp] theorem State.withUpdate_dispNotices (s : State) (v : UpdateEngine) : (s.withUpdate v).dispNotices = s.dispNotices := rfl
@[simp] theorem State.withUpdate_ports (s : State) (v : UpdateEngine) : (s.withUpdate v).ports = s.ports := rfl
@[simp] theorem State.withUpdate_masterWrites (s : State) (v : UpdateEngine) : (s.withUpdate v).masterWrites = s.masterWrites := rfl
@[simp] theorem State.withUpdate_pending (s : State) (v : UpdateEngine) : (s.withUpdate v).pending = s.pending := rfl

/-! ## `State.withResolver` -/

@[simp] theorem State.withResolver_link (s : State) (v : Resolver) : (s.withResolver v).link = s.link := rfl
@[simp] theorem State.withResolver_staged (s : State) (v : Resolver) : (s.withResolver v).staged = s.staged := rfl
@[simp] theorem State.withResolver_active (s : State) (v : Resolver) : (s.withResolver v).active = s.active := rfl
@[simp] theorem State.withResolver_applyPending (s : State) (v : Resolver) : (s.withResolver v).applyPending = s.applyPending := rfl
@[simp] theorem State.withResolver_engine (s : State) (v : Resolver) : (s.withResolver v).engine = s.engine := rfl
@[simp] theorem State.withResolver_table (s : State) (v : Resolver) : (s.withResolver v).table = s.table := rfl
@[simp] theorem State.withResolver_arbiter (s : State) (v : Resolver) : (s.withResolver v).arbiter = s.arbiter := rfl
@[simp] theorem State.withResolver_update (s : State) (v : Resolver) : (s.withResolver v).update = s.update := rfl
@[simp] theorem State.withResolver_resolver (s : State) (v : Resolver) : (s.withResolver v).resolver = v := rfl
@[simp] theorem State.withResolver_tool (s : State) (v : Resolver) : (s.withResolver v).tool = s.tool := rfl
@[simp] theorem State.withResolver_builder (s : State) (v : Resolver) : (s.withResolver v).builder = s.builder := rfl
@[simp] theorem State.withResolver_pick0 (s : State) (v : Resolver) : (s.withResolver v).pick0 = s.pick0 := rfl
@[simp] theorem State.withResolver_pick1 (s : State) (v : Resolver) : (s.withResolver v).pick1 = s.pick1 := rfl
@[simp] theorem State.withResolver_appNotices (s : State) (v : Resolver) : (s.withResolver v).appNotices = s.appNotices := rfl
@[simp] theorem State.withResolver_dispNotices (s : State) (v : Resolver) : (s.withResolver v).dispNotices = s.dispNotices := rfl
@[simp] theorem State.withResolver_ports (s : State) (v : Resolver) : (s.withResolver v).ports = s.ports := rfl
@[simp] theorem State.withResolver_masterWrites (s : State) (v : Resolver) : (s.withResolver v).masterWrites = s.masterWrites := rfl
@[simp] theorem State.withResolver_pending (s : State) (v : Resolver) : (s.withResolver v).pending = s.pending := rfl

/-! ## `State.withTool` -/

@[simp] theorem State.withTool_link (s : State) (v : ToolUnit) : (s.withTool v).link = s.link := rfl
@[simp] theorem State.withTool_staged (s : State) (v : ToolUnit) : (s.withTool v).staged = s.staged := rfl
@[simp] theorem State.withTool_active (s : State) (v : ToolUnit) : (s.withTool v).active = s.active := rfl
@[simp] theorem State.withTool_applyPending (s : State) (v : ToolUnit) : (s.withTool v).applyPending = s.applyPending := rfl
@[simp] theorem State.withTool_engine (s : State) (v : ToolUnit) : (s.withTool v).engine = s.engine := rfl
@[simp] theorem State.withTool_table (s : State) (v : ToolUnit) : (s.withTool v).table = s.table := rfl
@[simp] theorem State.withTool_arbiter (s : State) (v : ToolUnit) : (s.withTool v).arbiter = s.arbiter := rfl
@[simp] theorem State.withTool_update (s : State) (v : ToolUnit) : (s.withTool v).update = s.update := rfl
@[simp] theorem State.withTool_resolver (s : State) (v : ToolUnit) : (s.withTool v).resolver = s.resolver := rfl
@[simp] theorem State.withTool_tool (s : State) (v : ToolUnit) : (s.withTool v).tool = v := rfl
@[simp] theorem State.withTool_builder (s : State) (v : ToolUnit) : (s.withTool v).builder = s.builder := rfl
@[simp] theorem State.withTool_pick0 (s : State) (v : ToolUnit) : (s.withTool v).pick0 = s.pick0 := rfl
@[simp] theorem State.withTool_pick1 (s : State) (v : ToolUnit) : (s.withTool v).pick1 = s.pick1 := rfl
@[simp] theorem State.withTool_appNotices (s : State) (v : ToolUnit) : (s.withTool v).appNotices = s.appNotices := rfl
@[simp] theorem State.withTool_dispNotices (s : State) (v : ToolUnit) : (s.withTool v).dispNotices = s.dispNotices := rfl
@[simp] theorem State.withTool_ports (s : State) (v : ToolUnit) : (s.withTool v).ports = s.ports := rfl
@[simp] theorem State.withTool_masterWrites (s : State) (v : ToolUnit) : (s.withTool v).masterWrites = s.masterWrites := rfl
@[simp] theorem State.withTool_pending (s : State) (v : ToolUnit) : (s.withTool v).pending = s.pending := rfl

/-! ## `State.withBuilder` -/

@[simp] theorem State.withBuilder_link (s : State) (v : Builder) : (s.withBuilder v).link = s.link := rfl
@[simp] theorem State.withBuilder_staged (s : State) (v : Builder) : (s.withBuilder v).staged = s.staged := rfl
@[simp] theorem State.withBuilder_active (s : State) (v : Builder) : (s.withBuilder v).active = s.active := rfl
@[simp] theorem State.withBuilder_applyPending (s : State) (v : Builder) : (s.withBuilder v).applyPending = s.applyPending := rfl
@[simp] theorem State.withBuilder_engine (s : State) (v : Builder) : (s.withBuilder v).engine = s.engine := rfl
@[simp] theorem State.withBuilder_table (s : State) (v : Builder) : (s.withBuilder v).table = s.table := rfl
@[simp] theorem State.withBuilder_arbiter (s : State) (v : Builder) : (s.withBuilder v).arbiter = s.arbiter := rfl
@[simp] theorem State.withBuilder_update (s : State) (v : Builder) : (s.withBuilder v).update = s.update := rfl
@[simp] theorem State.withBuilder_resolver (s : State) (v : Builder) : (s.withBuilder v).resolver = s.resolver := rfl
@[simp] theorem State.withBuilder_tool (s : State) (v : Builder) : (s.withBuilder v).tool = s.tool := rfl
@[simp] theorem State.withBuilder_builder (s : State) (v : Builder) : (s.withBuilder v).builder = v := rfl
@[simp] theorem State.withBuilder_pick0 (s : State) (v : Builder) : (s.withBuilder v).pick0 = s.pick0 := rfl
@[simp] theorem State.withBuilder_pick1 (s : State) (v : Builder) : (s.withBuilder v).pick1 = s.pick1 := rfl
@[simp] theorem State.withBuilder_appNotices (s : State) (v : Builder) : (s.withBuilder v).appNotices = s.appNotices := rfl
@[simp] theorem State.withBuilder_dispNotices (s : State) (v : Builder) : (s.withBuilder v).dispNotices = s.dispNotices := rfl
@[simp] theorem State.withBuilder_ports (s : State) (v : Builder) : (s.withBuilder v).ports = s.ports := rfl
@[simp] theorem State.withBuilder_masterWrites (s : State) (v : Builder) : (s.withBuilder v).masterWrites = s.masterWrites := rfl
@[simp] theorem State.withBuilder_pending (s : State) (v : Builder) : (s.withBuilder v).pending = s.pending := rfl

/-! ## `State.withPorts` -/

@[simp] theorem State.withPorts_link (s : State) (v : Ports) : (s.withPorts v).link = s.link := rfl
@[simp] theorem State.withPorts_staged (s : State) (v : Ports) : (s.withPorts v).staged = s.staged := rfl
@[simp] theorem State.withPorts_active (s : State) (v : Ports) : (s.withPorts v).active = s.active := rfl
@[simp] theorem State.withPorts_applyPending (s : State) (v : Ports) : (s.withPorts v).applyPending = s.applyPending := rfl
@[simp] theorem State.withPorts_engine (s : State) (v : Ports) : (s.withPorts v).engine = s.engine := rfl
@[simp] theorem State.withPorts_table (s : State) (v : Ports) : (s.withPorts v).table = s.table := rfl
@[simp] theorem State.withPorts_arbiter (s : State) (v : Ports) : (s.withPorts v).arbiter = s.arbiter := rfl
@[simp] theorem State.withPorts_update (s : State) (v : Ports) : (s.withPorts v).update = s.update := rfl
@[simp] theorem State.withPorts_resolver (s : State) (v : Ports) : (s.withPorts v).resolver = s.resolver := rfl
@[simp] theorem State.withPorts_tool (s : State) (v : Ports) : (s.withPorts v).tool = s.tool := rfl
@[simp] theorem State.withPorts_builder (s : State) (v : Ports) : (s.withPorts v).builder = s.builder := rfl
@[simp] theorem State.withPorts_pick0 (s : State) (v : Ports) : (s.withPorts v).pick0 = s.pick0 := rfl
@[simp] theorem State.withPorts_pick1 (s : State) (v : Ports) : (s.withPorts v).pick1 = s.pick1 := rfl
@[simp] theorem State.withPorts_appNotices (s : State) (v : Ports) : (s.withPorts v).appNotices = s.appNotices := rfl
@[simp] theorem State.withPorts_dispNotices (s : State) (v : Ports) : (s.withPorts v).dispNotices = s.dispNotices := rfl
@[simp] theorem State.withPorts_ports (s : State) (v : Ports) : (s.withPorts v).ports = v := rfl
@[simp] theorem State.withPorts_masterWrites (s : State) (v : Ports) : (s.withPorts v).masterWrites = s.masterWrites := rfl
@[simp] theorem State.withPorts_pending (s : State) (v : Ports) : (s.withPorts v).pending = s.pending := rfl

/-! ## `State.withPick` -/

@[simp] theorem State.withPick_pick0_link (s : State) (v : PickSlot) : (s.withPick .pick0 v).link = s.link := rfl
@[simp] theorem State.withPick_pick0_staged (s : State) (v : PickSlot) : (s.withPick .pick0 v).staged = s.staged := rfl
@[simp] theorem State.withPick_pick0_active (s : State) (v : PickSlot) : (s.withPick .pick0 v).active = s.active := rfl
@[simp] theorem State.withPick_pick0_applyPending (s : State) (v : PickSlot) : (s.withPick .pick0 v).applyPending = s.applyPending := rfl
@[simp] theorem State.withPick_pick0_engine (s : State) (v : PickSlot) : (s.withPick .pick0 v).engine = s.engine := rfl
@[simp] theorem State.withPick_pick0_table (s : State) (v : PickSlot) : (s.withPick .pick0 v).table = s.table := rfl
@[simp] theorem State.withPick_pick0_arbiter (s : State) (v : PickSlot) : (s.withPick .pick0 v).arbiter = s.arbiter := rfl
@[simp] theorem State.withPick_pick0_update (s : State) (v : PickSlot) : (s.withPick .pick0 v).update = s.update := rfl
@[simp] theorem State.withPick_pick0_resolver (s : State) (v : PickSlot) : (s.withPick .pick0 v).resolver = s.resolver := rfl
@[simp] theorem State.withPick_pick0_tool (s : State) (v : PickSlot) : (s.withPick .pick0 v).tool = s.tool := rfl
@[simp] theorem State.withPick_pick0_builder (s : State) (v : PickSlot) : (s.withPick .pick0 v).builder = s.builder := rfl
@[simp] theorem State.withPick_pick0_pick0 (s : State) (v : PickSlot) : (s.withPick .pick0 v).pick0 = v := rfl
@[simp] theorem State.withPick_pick0_pick1 (s : State) (v : PickSlot) : (s.withPick .pick0 v).pick1 = s.pick1 := rfl
@[simp] theorem State.withPick_pick0_appNotices (s : State) (v : PickSlot) : (s.withPick .pick0 v).appNotices = s.appNotices := rfl
@[simp] theorem State.withPick_pick0_dispNotices (s : State) (v : PickSlot) : (s.withPick .pick0 v).dispNotices = s.dispNotices := rfl
@[simp] theorem State.withPick_pick0_ports (s : State) (v : PickSlot) : (s.withPick .pick0 v).ports = s.ports := rfl
@[simp] theorem State.withPick_pick0_masterWrites (s : State) (v : PickSlot) : (s.withPick .pick0 v).masterWrites = s.masterWrites := rfl
@[simp] theorem State.withPick_pick0_pending (s : State) (v : PickSlot) : (s.withPick .pick0 v).pending = s.pending := rfl
@[simp] theorem State.withPick_pick1_link (s : State) (v : PickSlot) : (s.withPick .pick1 v).link = s.link := rfl
@[simp] theorem State.withPick_pick1_staged (s : State) (v : PickSlot) : (s.withPick .pick1 v).staged = s.staged := rfl
@[simp] theorem State.withPick_pick1_active (s : State) (v : PickSlot) : (s.withPick .pick1 v).active = s.active := rfl
@[simp] theorem State.withPick_pick1_applyPending (s : State) (v : PickSlot) : (s.withPick .pick1 v).applyPending = s.applyPending := rfl
@[simp] theorem State.withPick_pick1_engine (s : State) (v : PickSlot) : (s.withPick .pick1 v).engine = s.engine := rfl
@[simp] theorem State.withPick_pick1_table (s : State) (v : PickSlot) : (s.withPick .pick1 v).table = s.table := rfl
@[simp] theorem State.withPick_pick1_arbiter (s : State) (v : PickSlot) : (s.withPick .pick1 v).arbiter = s.arbiter := rfl
@[simp] theorem State.withPick_pick1_update (s : State) (v : PickSlot) : (s.withPick .pick1 v).update = s.update := rfl
@[simp] theorem State.withPick_pick1_resolver (s : State) (v : PickSlot) : (s.withPick .pick1 v).resolver = s.resolver := rfl
@[simp] theorem State.withPick_pick1_tool (s : State) (v : PickSlot) : (s.withPick .pick1 v).tool = s.tool := rfl
@[simp] theorem State.withPick_pick1_builder (s : State) (v : PickSlot) : (s.withPick .pick1 v).builder = s.builder := rfl
@[simp] theorem State.withPick_pick1_pick0 (s : State) (v : PickSlot) : (s.withPick .pick1 v).pick0 = s.pick0 := rfl
@[simp] theorem State.withPick_pick1_pick1 (s : State) (v : PickSlot) : (s.withPick .pick1 v).pick1 = v := rfl
@[simp] theorem State.withPick_pick1_appNotices (s : State) (v : PickSlot) : (s.withPick .pick1 v).appNotices = s.appNotices := rfl
@[simp] theorem State.withPick_pick1_dispNotices (s : State) (v : PickSlot) : (s.withPick .pick1 v).dispNotices = s.dispNotices := rfl
@[simp] theorem State.withPick_pick1_ports (s : State) (v : PickSlot) : (s.withPick .pick1 v).ports = s.ports := rfl
@[simp] theorem State.withPick_pick1_masterWrites (s : State) (v : PickSlot) : (s.withPick .pick1 v).masterWrites = s.masterWrites := rfl
@[simp] theorem State.withPick_pick1_pending (s : State) (v : PickSlot) : (s.withPick .pick1 v).pending = s.pending := rfl

/-! ## `raiseApp` -/

@[simp] theorem raiseApp_link (n : AppNotice) (s : State) : (raiseApp n s).link = s.link := rfl
@[simp] theorem raiseApp_staged (n : AppNotice) (s : State) : (raiseApp n s).staged = s.staged := rfl
@[simp] theorem raiseApp_active (n : AppNotice) (s : State) : (raiseApp n s).active = s.active := rfl
@[simp] theorem raiseApp_applyPending (n : AppNotice) (s : State) : (raiseApp n s).applyPending = s.applyPending :=
  rfl
@[simp] theorem raiseApp_engine (n : AppNotice) (s : State) : (raiseApp n s).engine = s.engine := rfl
@[simp] theorem raiseApp_table (n : AppNotice) (s : State) : (raiseApp n s).table = s.table := rfl
@[simp] theorem raiseApp_arbiter (n : AppNotice) (s : State) : (raiseApp n s).arbiter = s.arbiter := rfl
@[simp] theorem raiseApp_update (n : AppNotice) (s : State) : (raiseApp n s).update = s.update := rfl
@[simp] theorem raiseApp_resolver (n : AppNotice) (s : State) : (raiseApp n s).resolver = s.resolver := rfl
@[simp] theorem raiseApp_tool (n : AppNotice) (s : State) : (raiseApp n s).tool = s.tool := rfl
@[simp] theorem raiseApp_builder (n : AppNotice) (s : State) : (raiseApp n s).builder = s.builder := rfl
@[simp] theorem raiseApp_pick0 (n : AppNotice) (s : State) : (raiseApp n s).pick0 = s.pick0 := rfl
@[simp] theorem raiseApp_pick1 (n : AppNotice) (s : State) : (raiseApp n s).pick1 = s.pick1 := rfl
@[simp] theorem raiseApp_appNotices (n : AppNotice) (s : State) : (raiseApp n s).appNotices = s.appNotices.raise n.bit :=
  rfl
@[simp] theorem raiseApp_dispNotices (n : AppNotice) (s : State) : (raiseApp n s).dispNotices = s.dispNotices := rfl
@[simp] theorem raiseApp_ports (n : AppNotice) (s : State) : (raiseApp n s).ports = s.ports := rfl
@[simp] theorem raiseApp_masterWrites (n : AppNotice) (s : State) : (raiseApp n s).masterWrites = s.masterWrites :=
  rfl
@[simp] theorem raiseApp_pending (n : AppNotice) (s : State) : (raiseApp n s).pending = s.pending := rfl

/-! ## `raiseDisp` -/

@[simp] theorem raiseDisp_link (n : DispNotice) (s : State) : (raiseDisp n s).link = s.link := rfl
@[simp] theorem raiseDisp_staged (n : DispNotice) (s : State) : (raiseDisp n s).staged = s.staged := rfl
@[simp] theorem raiseDisp_active (n : DispNotice) (s : State) : (raiseDisp n s).active = s.active := rfl
@[simp] theorem raiseDisp_applyPending (n : DispNotice) (s : State) : (raiseDisp n s).applyPending = s.applyPending :=
  rfl
@[simp] theorem raiseDisp_engine (n : DispNotice) (s : State) : (raiseDisp n s).engine = s.engine := rfl
@[simp] theorem raiseDisp_table (n : DispNotice) (s : State) : (raiseDisp n s).table = s.table := rfl
@[simp] theorem raiseDisp_arbiter (n : DispNotice) (s : State) : (raiseDisp n s).arbiter = s.arbiter := rfl
@[simp] theorem raiseDisp_update (n : DispNotice) (s : State) : (raiseDisp n s).update = s.update := rfl
@[simp] theorem raiseDisp_resolver (n : DispNotice) (s : State) : (raiseDisp n s).resolver = s.resolver := rfl
@[simp] theorem raiseDisp_tool (n : DispNotice) (s : State) : (raiseDisp n s).tool = s.tool := rfl
@[simp] theorem raiseDisp_builder (n : DispNotice) (s : State) : (raiseDisp n s).builder = s.builder := rfl
@[simp] theorem raiseDisp_pick0 (n : DispNotice) (s : State) : (raiseDisp n s).pick0 = s.pick0 := rfl
@[simp] theorem raiseDisp_pick1 (n : DispNotice) (s : State) : (raiseDisp n s).pick1 = s.pick1 := rfl
@[simp] theorem raiseDisp_appNotices (n : DispNotice) (s : State) : (raiseDisp n s).appNotices = s.appNotices := rfl
@[simp] theorem raiseDisp_dispNotices (n : DispNotice) (s : State) : (raiseDisp n s).dispNotices = s.dispNotices.raise n.bit :=
  rfl
@[simp] theorem raiseDisp_ports (n : DispNotice) (s : State) : (raiseDisp n s).ports = s.ports := rfl
@[simp] theorem raiseDisp_masterWrites (n : DispNotice) (s : State) : (raiseDisp n s).masterWrites = s.masterWrites :=
  rfl
@[simp] theorem raiseDisp_pending (n : DispNotice) (s : State) : (raiseDisp n s).pending = s.pending := rfl

/-! ## `requestRebuildIf` -/

@[simp] theorem requestRebuildIf_link (b : Bool) (s : State) : (requestRebuildIf b s).link = s.link := rfl
@[simp] theorem requestRebuildIf_staged (b : Bool) (s : State) : (requestRebuildIf b s).staged = s.staged := rfl
@[simp] theorem requestRebuildIf_active (b : Bool) (s : State) : (requestRebuildIf b s).active = s.active := rfl
@[simp] theorem requestRebuildIf_applyPending (b : Bool) (s : State) : (requestRebuildIf b s).applyPending = s.applyPending :=
  rfl
@[simp] theorem requestRebuildIf_engine (b : Bool) (s : State) : (requestRebuildIf b s).engine = s.engine := rfl
@[simp] theorem requestRebuildIf_table (b : Bool) (s : State) : (requestRebuildIf b s).table = s.table := rfl
@[simp] theorem requestRebuildIf_arbiter (b : Bool) (s : State) : (requestRebuildIf b s).arbiter = s.arbiter := rfl
@[simp] theorem requestRebuildIf_update (b : Bool) (s : State) : (requestRebuildIf b s).update = s.update := rfl
@[simp] theorem requestRebuildIf_resolver (b : Bool) (s : State) : (requestRebuildIf b s).resolver = s.resolver := rfl
@[simp] theorem requestRebuildIf_tool (b : Bool) (s : State) : (requestRebuildIf b s).tool = s.tool := rfl
@[simp] theorem requestRebuildIf_builder (b : Bool) (s : State) : (requestRebuildIf b s).builder = { s.builder with rebuild := s.builder.rebuild || b } :=
  rfl
@[simp] theorem requestRebuildIf_pick0 (b : Bool) (s : State) : (requestRebuildIf b s).pick0 = s.pick0 := rfl
@[simp] theorem requestRebuildIf_pick1 (b : Bool) (s : State) : (requestRebuildIf b s).pick1 = s.pick1 := rfl
@[simp] theorem requestRebuildIf_appNotices (b : Bool) (s : State) : (requestRebuildIf b s).appNotices = s.appNotices :=
  rfl
@[simp] theorem requestRebuildIf_dispNotices (b : Bool) (s : State) : (requestRebuildIf b s).dispNotices = s.dispNotices :=
  rfl
@[simp] theorem requestRebuildIf_ports (b : Bool) (s : State) : (requestRebuildIf b s).ports = s.ports := rfl
@[simp] theorem requestRebuildIf_masterWrites (b : Bool) (s : State) : (requestRebuildIf b s).masterWrites = s.masterWrites :=
  rfl
@[simp] theorem requestRebuildIf_pending (b : Bool) (s : State) : (requestRebuildIf b s).pending = s.pending := rfl

/-! ## `requestRebuild` -/

@[simp] theorem requestRebuild_link (s : State) : (requestRebuild s).link = s.link := rfl
@[simp] theorem requestRebuild_staged (s : State) : (requestRebuild s).staged = s.staged := rfl
@[simp] theorem requestRebuild_active (s : State) : (requestRebuild s).active = s.active := rfl
@[simp] theorem requestRebuild_applyPending (s : State) : (requestRebuild s).applyPending = s.applyPending := rfl
@[simp] theorem requestRebuild_engine (s : State) : (requestRebuild s).engine = s.engine := rfl
@[simp] theorem requestRebuild_table (s : State) : (requestRebuild s).table = s.table := rfl
@[simp] theorem requestRebuild_arbiter (s : State) : (requestRebuild s).arbiter = s.arbiter := rfl
@[simp] theorem requestRebuild_update (s : State) : (requestRebuild s).update = s.update := rfl
@[simp] theorem requestRebuild_resolver (s : State) : (requestRebuild s).resolver = s.resolver := rfl
@[simp] theorem requestRebuild_tool (s : State) : (requestRebuild s).tool = s.tool := rfl
@[simp] theorem requestRebuild_builder (s : State) : (requestRebuild s).builder = { s.builder with rebuild := s.builder.rebuild || true } :=
  rfl
@[simp] theorem requestRebuild_pick0 (s : State) : (requestRebuild s).pick0 = s.pick0 := rfl
@[simp] theorem requestRebuild_pick1 (s : State) : (requestRebuild s).pick1 = s.pick1 := rfl
@[simp] theorem requestRebuild_appNotices (s : State) : (requestRebuild s).appNotices = s.appNotices := rfl
@[simp] theorem requestRebuild_dispNotices (s : State) : (requestRebuild s).dispNotices = s.dispNotices := rfl
@[simp] theorem requestRebuild_ports (s : State) : (requestRebuild s).ports = s.ports := rfl
@[simp] theorem requestRebuild_masterWrites (s : State) : (requestRebuild s).masterWrites = s.masterWrites := rfl
@[simp] theorem requestRebuild_pending (s : State) : (requestRebuild s).pending = s.pending := rfl

/-! ## `putTable` -/

@[simp] theorem putTable_link (t : Table) (s : State) : (putTable t s).link = s.link := rfl
@[simp] theorem putTable_staged (t : Table) (s : State) : (putTable t s).staged = s.staged := rfl
@[simp] theorem putTable_active (t : Table) (s : State) : (putTable t s).active = s.active := rfl
@[simp] theorem putTable_applyPending (t : Table) (s : State) : (putTable t s).applyPending = s.applyPending := rfl
@[simp] theorem putTable_engine (t : Table) (s : State) : (putTable t s).engine = s.engine := rfl
@[simp] theorem putTable_table (t : Table) (s : State) : (putTable t s).table = t := rfl
@[simp] theorem putTable_arbiter (t : Table) (s : State) : (putTable t s).arbiter = s.arbiter := rfl
@[simp] theorem putTable_update (t : Table) (s : State) : (putTable t s).update = s.update := rfl
@[simp] theorem putTable_resolver (t : Table) (s : State) : (putTable t s).resolver = s.resolver := rfl
@[simp] theorem putTable_tool (t : Table) (s : State) : (putTable t s).tool = s.tool := rfl
@[simp] theorem putTable_builder (t : Table) (s : State) : (putTable t s).builder = { s.builder with rebuild := s.builder.rebuild || t.generation != s.table.generation } :=
  rfl
@[simp] theorem putTable_pick0 (t : Table) (s : State) : (putTable t s).pick0 = s.pick0 := rfl
@[simp] theorem putTable_pick1 (t : Table) (s : State) : (putTable t s).pick1 = s.pick1 := rfl
@[simp] theorem putTable_appNotices (t : Table) (s : State) : (putTable t s).appNotices = s.appNotices := rfl
@[simp] theorem putTable_dispNotices (t : Table) (s : State) : (putTable t s).dispNotices = s.dispNotices := rfl
@[simp] theorem putTable_ports (t : Table) (s : State) : (putTable t s).ports = s.ports := rfl
@[simp] theorem putTable_masterWrites (t : Table) (s : State) : (putTable t s).masterWrites = s.masterWrites := rfl
@[simp] theorem putTable_pending (t : Table) (s : State) : (putTable t s).pending = s.pending := rfl

/-! ## `putContext` -/

@[simp] theorem putContext_link (c : ToolContext) (d : Drag) (s : State) : (putContext c d s).link = s.link := rfl
@[simp] theorem putContext_staged (c : ToolContext) (d : Drag) (s : State) : (putContext c d s).staged = s.staged :=
  rfl
@[simp] theorem putContext_active (c : ToolContext) (d : Drag) (s : State) : (putContext c d s).active = s.active :=
  rfl
@[simp] theorem putContext_applyPending (c : ToolContext) (d : Drag) (s : State) : (putContext c d s).applyPending = s.applyPending :=
  rfl
@[simp] theorem putContext_engine (c : ToolContext) (d : Drag) (s : State) : (putContext c d s).engine = s.engine :=
  rfl
@[simp] theorem putContext_table (c : ToolContext) (d : Drag) (s : State) : (putContext c d s).table = s.table := rfl
@[simp] theorem putContext_arbiter (c : ToolContext) (d : Drag) (s : State) : (putContext c d s).arbiter = s.arbiter :=
  rfl
@[simp] theorem putContext_update (c : ToolContext) (d : Drag) (s : State) : (putContext c d s).update = s.update :=
  rfl
@[simp] theorem putContext_resolver (c : ToolContext) (d : Drag) (s : State) : (putContext c d s).resolver = s.resolver :=
  rfl
@[simp] theorem putContext_tool (c : ToolContext) (d : Drag) (s : State) : (putContext c d s).tool = { s.tool with context := c, drag := d } :=
  rfl
@[simp] theorem putContext_builder (c : ToolContext) (d : Drag) (s : State) : (putContext c d s).builder = { s.builder with rebuild := s.builder.rebuild || (c != s.tool.context || d != s.tool.drag) } :=
  rfl
@[simp] theorem putContext_pick0 (c : ToolContext) (d : Drag) (s : State) : (putContext c d s).pick0 = s.pick0 := rfl
@[simp] theorem putContext_pick1 (c : ToolContext) (d : Drag) (s : State) : (putContext c d s).pick1 = s.pick1 := rfl
@[simp] theorem putContext_appNotices (c : ToolContext) (d : Drag) (s : State) : (putContext c d s).appNotices = s.appNotices :=
  rfl
@[simp] theorem putContext_dispNotices (c : ToolContext) (d : Drag) (s : State) : (putContext c d s).dispNotices = s.dispNotices :=
  rfl
@[simp] theorem putContext_ports (c : ToolContext) (d : Drag) (s : State) : (putContext c d s).ports = s.ports := rfl
@[simp] theorem putContext_masterWrites (c : ToolContext) (d : Drag) (s : State) : (putContext c d s).masterWrites = s.masterWrites :=
  rfl
@[simp] theorem putContext_pending (c : ToolContext) (d : Drag) (s : State) : (putContext c d s).pending = s.pending :=
  rfl

/-! ## `freeHolder` -/

@[simp] theorem freeHolder_link (s : State) : (freeHolder s).link = s.link := rfl
@[simp] theorem freeHolder_staged (s : State) : (freeHolder s).staged = s.staged := rfl
@[simp] theorem freeHolder_active (s : State) : (freeHolder s).active = s.active := rfl
@[simp] theorem freeHolder_applyPending (s : State) : (freeHolder s).applyPending = s.applyPending := rfl
@[simp] theorem freeHolder_engine (s : State) : (freeHolder s).engine = s.engine := rfl
@[simp] theorem freeHolder_table (s : State) : (freeHolder s).table = s.table := rfl
@[simp] theorem freeHolder_arbiter (s : State) : (freeHolder s).arbiter = { s.arbiter with holder := none } := rfl
@[simp] theorem freeHolder_update (s : State) : (freeHolder s).update = s.update := rfl
@[simp] theorem freeHolder_resolver (s : State) : (freeHolder s).resolver = s.resolver := rfl
@[simp] theorem freeHolder_tool (s : State) : (freeHolder s).tool = s.tool := rfl
@[simp] theorem freeHolder_builder (s : State) : (freeHolder s).builder = s.builder := rfl
@[simp] theorem freeHolder_pick0 (s : State) : (freeHolder s).pick0 = s.pick0 := rfl
@[simp] theorem freeHolder_pick1 (s : State) : (freeHolder s).pick1 = s.pick1 := rfl
@[simp] theorem freeHolder_appNotices (s : State) : (freeHolder s).appNotices = s.appNotices := rfl
@[simp] theorem freeHolder_dispNotices (s : State) : (freeHolder s).dispNotices = s.dispNotices := rfl
@[simp] theorem freeHolder_ports (s : State) : (freeHolder s).ports = s.ports := rfl
@[simp] theorem freeHolder_masterWrites (s : State) : (freeHolder s).masterWrites = s.masterWrites := rfl
@[simp] theorem freeHolder_pending (s : State) : (freeHolder s).pending = s.pending := rfl

/-! ## `withdraw` -/

@[simp] theorem withdraw_link (r : Requester) (s : State) : (withdraw r s).link = s.link := rfl
@[simp] theorem withdraw_staged (r : Requester) (s : State) : (withdraw r s).staged = s.staged := rfl
@[simp] theorem withdraw_active (r : Requester) (s : State) : (withdraw r s).active = s.active := rfl
@[simp] theorem withdraw_applyPending (r : Requester) (s : State) : (withdraw r s).applyPending = s.applyPending :=
  rfl
@[simp] theorem withdraw_engine (r : Requester) (s : State) : (withdraw r s).engine = s.engine := rfl
@[simp] theorem withdraw_table (r : Requester) (s : State) : (withdraw r s).table = s.table := rfl
@[simp] theorem withdraw_update (r : Requester) (s : State) : (withdraw r s).update = s.update := rfl
@[simp] theorem withdraw_resolver (r : Requester) (s : State) : (withdraw r s).resolver = s.resolver := rfl
@[simp] theorem withdraw_tool (r : Requester) (s : State) : (withdraw r s).tool = s.tool := rfl
@[simp] theorem withdraw_builder (r : Requester) (s : State) : (withdraw r s).builder = s.builder := rfl
@[simp] theorem withdraw_pick0 (r : Requester) (s : State) : (withdraw r s).pick0 = s.pick0 := rfl
@[simp] theorem withdraw_pick1 (r : Requester) (s : State) : (withdraw r s).pick1 = s.pick1 := rfl
@[simp] theorem withdraw_appNotices (r : Requester) (s : State) : (withdraw r s).appNotices = s.appNotices := rfl
@[simp] theorem withdraw_dispNotices (r : Requester) (s : State) : (withdraw r s).dispNotices = s.dispNotices := rfl
@[simp] theorem withdraw_ports (r : Requester) (s : State) : (withdraw r s).ports = s.ports := rfl
@[simp] theorem withdraw_masterWrites (r : Requester) (s : State) : (withdraw r s).masterWrites = s.masterWrites :=
  rfl
@[simp] theorem withdraw_pending (r : Requester) (s : State) : (withdraw r s).pending = s.pending := rfl

/-! ## `setAssembler` -/

@[simp] theorem setAssembler_link (a : Assembler) (s : State) : (setAssembler a s).link = { s.link with assembler := a } :=
  rfl
@[simp] theorem setAssembler_staged (a : Assembler) (s : State) : (setAssembler a s).staged = s.staged := rfl
@[simp] theorem setAssembler_active (a : Assembler) (s : State) : (setAssembler a s).active = s.active := rfl
@[simp] theorem setAssembler_applyPending (a : Assembler) (s : State) : (setAssembler a s).applyPending = s.applyPending :=
  rfl
@[simp] theorem setAssembler_engine (a : Assembler) (s : State) : (setAssembler a s).engine = s.engine := rfl
@[simp] theorem setAssembler_table (a : Assembler) (s : State) : (setAssembler a s).table = s.table := rfl
@[simp] theorem setAssembler_arbiter (a : Assembler) (s : State) : (setAssembler a s).arbiter = s.arbiter := rfl
@[simp] theorem setAssembler_update (a : Assembler) (s : State) : (setAssembler a s).update = s.update := rfl
@[simp] theorem setAssembler_resolver (a : Assembler) (s : State) : (setAssembler a s).resolver = s.resolver := rfl
@[simp] theorem setAssembler_tool (a : Assembler) (s : State) : (setAssembler a s).tool = s.tool := rfl
@[simp] theorem setAssembler_builder (a : Assembler) (s : State) : (setAssembler a s).builder = s.builder := rfl
@[simp] theorem setAssembler_pick0 (a : Assembler) (s : State) : (setAssembler a s).pick0 = s.pick0 := rfl
@[simp] theorem setAssembler_pick1 (a : Assembler) (s : State) : (setAssembler a s).pick1 = s.pick1 := rfl
@[simp] theorem setAssembler_appNotices (a : Assembler) (s : State) : (setAssembler a s).appNotices = s.appNotices :=
  rfl
@[simp] theorem setAssembler_dispNotices (a : Assembler) (s : State) : (setAssembler a s).dispNotices = s.dispNotices :=
  rfl
@[simp] theorem setAssembler_ports (a : Assembler) (s : State) : (setAssembler a s).ports = s.ports := rfl
@[simp] theorem setAssembler_masterWrites (a : Assembler) (s : State) : (setAssembler a s).masterWrites = s.masterWrites :=
  rfl
@[simp] theorem setAssembler_pending (a : Assembler) (s : State) : (setAssembler a s).pending = s.pending := rfl

/-! ## `showWrites` -/

@[simp] theorem showWrites_link (l : List (Word × Word)) (s : State) : (showWrites l s).link = s.link := rfl
@[simp] theorem showWrites_staged (l : List (Word × Word)) (s : State) : (showWrites l s).staged = s.staged := rfl
@[simp] theorem showWrites_active (l : List (Word × Word)) (s : State) : (showWrites l s).active = s.active := rfl
@[simp] theorem showWrites_applyPending (l : List (Word × Word)) (s : State) : (showWrites l s).applyPending = s.applyPending :=
  rfl
@[simp] theorem showWrites_engine (l : List (Word × Word)) (s : State) : (showWrites l s).engine = s.engine := rfl
@[simp] theorem showWrites_table (l : List (Word × Word)) (s : State) : (showWrites l s).table = s.table := rfl
@[simp] theorem showWrites_arbiter (l : List (Word × Word)) (s : State) : (showWrites l s).arbiter = s.arbiter := rfl
@[simp] theorem showWrites_update (l : List (Word × Word)) (s : State) : (showWrites l s).update = s.update := rfl
@[simp] theorem showWrites_resolver (l : List (Word × Word)) (s : State) : (showWrites l s).resolver = s.resolver :=
  rfl
@[simp] theorem showWrites_tool (l : List (Word × Word)) (s : State) : (showWrites l s).tool = s.tool := rfl
@[simp] theorem showWrites_builder (l : List (Word × Word)) (s : State) : (showWrites l s).builder = s.builder := rfl
@[simp] theorem showWrites_pick0 (l : List (Word × Word)) (s : State) : (showWrites l s).pick0 = s.pick0 := rfl
@[simp] theorem showWrites_pick1 (l : List (Word × Word)) (s : State) : (showWrites l s).pick1 = s.pick1 := rfl
@[simp] theorem showWrites_appNotices (l : List (Word × Word)) (s : State) : (showWrites l s).appNotices = s.appNotices :=
  rfl
@[simp] theorem showWrites_dispNotices (l : List (Word × Word)) (s : State) : (showWrites l s).dispNotices = s.dispNotices :=
  rfl
@[simp] theorem showWrites_ports (l : List (Word × Word)) (s : State) : (showWrites l s).ports = s.ports := rfl
@[simp] theorem showWrites_masterWrites (l : List (Word × Word)) (s : State) : (showWrites l s).masterWrites = l :=
  rfl
@[simp] theorem showWrites_pending (l : List (Word × Word)) (s : State) : (showWrites l s).pending = s.pending := rfl

/-! ## `startWriteBack` -/

@[simp] theorem startWriteBack_link (f : InFlight) (c : Cell) (r : CellResult) (h : Option Word) (s : State) : (startWriteBack f c r h s).link = s.link :=
  rfl
@[simp] theorem startWriteBack_staged (f : InFlight) (c : Cell) (r : CellResult) (h : Option Word) (s : State) : (startWriteBack f c r h s).staged = s.staged :=
  rfl
@[simp] theorem startWriteBack_active (f : InFlight) (c : Cell) (r : CellResult) (h : Option Word) (s : State) : (startWriteBack f c r h s).active = s.active :=
  rfl
@[simp] theorem startWriteBack_applyPending (f : InFlight) (c : Cell) (r : CellResult) (h : Option Word) (s : State) : (startWriteBack f c r h s).applyPending = s.applyPending :=
  rfl
@[simp] theorem startWriteBack_engine (f : InFlight) (c : Cell) (r : CellResult) (h : Option Word) (s : State) : (startWriteBack f c r h s).engine = s.engine :=
  rfl
@[simp] theorem startWriteBack_table (f : InFlight) (c : Cell) (r : CellResult) (h : Option Word) (s : State) : (startWriteBack f c r h s).table = s.table :=
  rfl
@[simp] theorem startWriteBack_arbiter (f : InFlight) (c : Cell) (r : CellResult) (h : Option Word) (s : State) : (startWriteBack f c r h s).arbiter = s.arbiter :=
  rfl
@[simp] theorem startWriteBack_resolver (f : InFlight) (c : Cell) (r : CellResult) (h : Option Word) (s : State) : (startWriteBack f c r h s).resolver = s.resolver :=
  rfl
@[simp] theorem startWriteBack_tool (f : InFlight) (c : Cell) (r : CellResult) (h : Option Word) (s : State) : (startWriteBack f c r h s).tool = s.tool :=
  rfl
@[simp] theorem startWriteBack_builder (f : InFlight) (c : Cell) (r : CellResult) (h : Option Word) (s : State) : (startWriteBack f c r h s).builder = s.builder :=
  rfl
@[simp] theorem startWriteBack_pick0 (f : InFlight) (c : Cell) (r : CellResult) (h : Option Word) (s : State) : (startWriteBack f c r h s).pick0 = s.pick0 :=
  rfl
@[simp] theorem startWriteBack_pick1 (f : InFlight) (c : Cell) (r : CellResult) (h : Option Word) (s : State) : (startWriteBack f c r h s).pick1 = s.pick1 :=
  rfl
@[simp] theorem startWriteBack_appNotices (f : InFlight) (c : Cell) (r : CellResult) (h : Option Word) (s : State) : (startWriteBack f c r h s).appNotices = s.appNotices :=
  rfl
@[simp] theorem startWriteBack_dispNotices (f : InFlight) (c : Cell) (r : CellResult) (h : Option Word) (s : State) : (startWriteBack f c r h s).dispNotices = s.dispNotices :=
  rfl
@[simp] theorem startWriteBack_ports (f : InFlight) (c : Cell) (r : CellResult) (h : Option Word) (s : State) : (startWriteBack f c r h s).ports = s.ports :=
  rfl
@[simp] theorem startWriteBack_masterWrites (f : InFlight) (c : Cell) (r : CellResult) (h : Option Word) (s : State) : (startWriteBack f c r h s).masterWrites = s.masterWrites :=
  rfl
@[simp] theorem startWriteBack_pending (f : InFlight) (c : Cell) (r : CellResult) (h : Option Word) (s : State) : (startWriteBack f c r h s).pending = s.pending :=
  rfl

/-! ## `dropInFlight` -/

@[simp] theorem dropInFlight_link (s : State) : (dropInFlight s).link = s.link := rfl
@[simp] theorem dropInFlight_staged (s : State) : (dropInFlight s).staged = s.staged := rfl
@[simp] theorem dropInFlight_active (s : State) : (dropInFlight s).active = s.active := rfl
@[simp] theorem dropInFlight_applyPending (s : State) : (dropInFlight s).applyPending = s.applyPending := rfl
@[simp] theorem dropInFlight_engine (s : State) : (dropInFlight s).engine = s.engine := rfl
@[simp] theorem dropInFlight_table (s : State) : (dropInFlight s).table = s.table := rfl
@[simp] theorem dropInFlight_arbiter (s : State) : (dropInFlight s).arbiter = s.arbiter := rfl
@[simp] theorem dropInFlight_update (s : State) : (dropInFlight s).update = { s.update with inFlight := none } := rfl
@[simp] theorem dropInFlight_resolver (s : State) : (dropInFlight s).resolver = s.resolver := rfl
@[simp] theorem dropInFlight_tool (s : State) : (dropInFlight s).tool = s.tool := rfl
@[simp] theorem dropInFlight_builder (s : State) : (dropInFlight s).builder = s.builder := rfl
@[simp] theorem dropInFlight_pick0 (s : State) : (dropInFlight s).pick0 = s.pick0 := rfl
@[simp] theorem dropInFlight_pick1 (s : State) : (dropInFlight s).pick1 = s.pick1 := rfl
@[simp] theorem dropInFlight_appNotices (s : State) : (dropInFlight s).appNotices = s.appNotices := rfl
@[simp] theorem dropInFlight_dispNotices (s : State) : (dropInFlight s).dispNotices = s.dispNotices := rfl
@[simp] theorem dropInFlight_ports (s : State) : (dropInFlight s).ports = s.ports := rfl
@[simp] theorem dropInFlight_masterWrites (s : State) : (dropInFlight s).masterWrites = s.masterWrites := rfl
@[simp] theorem dropInFlight_pending (s : State) : (dropInFlight s).pending = s.pending := rfl

/-! ## `waitWith` -/

@[simp] theorem waitWith_link (f : InFlight) (c : Cell) (s : State) : (waitWith f c s).link = s.link := rfl
@[simp] theorem waitWith_staged (f : InFlight) (c : Cell) (s : State) : (waitWith f c s).staged = s.staged := rfl
@[simp] theorem waitWith_active (f : InFlight) (c : Cell) (s : State) : (waitWith f c s).active = s.active := rfl
@[simp] theorem waitWith_applyPending (f : InFlight) (c : Cell) (s : State) : (waitWith f c s).applyPending = s.applyPending :=
  rfl
@[simp] theorem waitWith_engine (f : InFlight) (c : Cell) (s : State) : (waitWith f c s).engine = s.engine := rfl
@[simp] theorem waitWith_table (f : InFlight) (c : Cell) (s : State) : (waitWith f c s).table = s.table := rfl
@[simp] theorem waitWith_arbiter (f : InFlight) (c : Cell) (s : State) : (waitWith f c s).arbiter = s.arbiter := rfl
@[simp] theorem waitWith_resolver (f : InFlight) (c : Cell) (s : State) : (waitWith f c s).resolver = s.resolver :=
  rfl
@[simp] theorem waitWith_tool (f : InFlight) (c : Cell) (s : State) : (waitWith f c s).tool = s.tool := rfl
@[simp] theorem waitWith_builder (f : InFlight) (c : Cell) (s : State) : (waitWith f c s).builder = s.builder := rfl
@[simp] theorem waitWith_pick0 (f : InFlight) (c : Cell) (s : State) : (waitWith f c s).pick0 = s.pick0 := rfl
@[simp] theorem waitWith_pick1 (f : InFlight) (c : Cell) (s : State) : (waitWith f c s).pick1 = s.pick1 := rfl
@[simp] theorem waitWith_appNotices (f : InFlight) (c : Cell) (s : State) : (waitWith f c s).appNotices = s.appNotices :=
  rfl
@[simp] theorem waitWith_dispNotices (f : InFlight) (c : Cell) (s : State) : (waitWith f c s).dispNotices = s.dispNotices :=
  rfl
@[simp] theorem waitWith_ports (f : InFlight) (c : Cell) (s : State) : (waitWith f c s).ports = s.ports := rfl
@[simp] theorem waitWith_masterWrites (f : InFlight) (c : Cell) (s : State) : (waitWith f c s).masterWrites = s.masterWrites :=
  rfl
@[simp] theorem waitWith_pending (f : InFlight) (c : Cell) (s : State) : (waitWith f c s).pending = s.pending := rfl

/-! ## `appendRecord` -/

@[simp] theorem appendRecord_link (r : CommitRecord) (s : State) : (appendRecord r s).link = s.link := rfl
@[simp] theorem appendRecord_staged (r : CommitRecord) (s : State) : (appendRecord r s).staged = s.staged := rfl
@[simp] theorem appendRecord_active (r : CommitRecord) (s : State) : (appendRecord r s).active = s.active := rfl
@[simp] theorem appendRecord_applyPending (r : CommitRecord) (s : State) : (appendRecord r s).applyPending = s.applyPending :=
  rfl
@[simp] theorem appendRecord_engine (r : CommitRecord) (s : State) : (appendRecord r s).engine = s.engine := rfl
@[simp] theorem appendRecord_table (r : CommitRecord) (s : State) : (appendRecord r s).table = s.table := rfl
@[simp] theorem appendRecord_arbiter (r : CommitRecord) (s : State) : (appendRecord r s).arbiter = s.arbiter := rfl
@[simp] theorem appendRecord_update (r : CommitRecord) (s : State) : (appendRecord r s).update = s.update := rfl
@[simp] theorem appendRecord_resolver (r : CommitRecord) (s : State) : (appendRecord r s).resolver = s.resolver := rfl
@[simp] theorem appendRecord_builder (r : CommitRecord) (s : State) : (appendRecord r s).builder = s.builder := rfl
@[simp] theorem appendRecord_pick0 (r : CommitRecord) (s : State) : (appendRecord r s).pick0 = s.pick0 := rfl
@[simp] theorem appendRecord_pick1 (r : CommitRecord) (s : State) : (appendRecord r s).pick1 = s.pick1 := rfl
@[simp] theorem appendRecord_appNotices (r : CommitRecord) (s : State) : (appendRecord r s).appNotices = s.appNotices :=
  rfl
@[simp] theorem appendRecord_dispNotices (r : CommitRecord) (s : State) : (appendRecord r s).dispNotices = s.dispNotices :=
  rfl
@[simp] theorem appendRecord_ports (r : CommitRecord) (s : State) : (appendRecord r s).ports = s.ports := rfl
@[simp] theorem appendRecord_masterWrites (r : CommitRecord) (s : State) : (appendRecord r s).masterWrites = s.masterWrites :=
  rfl
@[simp] theorem appendRecord_pending (r : CommitRecord) (s : State) : (appendRecord r s).pending = s.pending := rfl

/-! ## `commitPop` -/

@[simp] theorem commitPop_link (s : State) : (commitPop s).link = s.link := rfl
@[simp] theorem commitPop_staged (s : State) : (commitPop s).staged = s.staged := rfl
@[simp] theorem commitPop_active (s : State) : (commitPop s).active = s.active := rfl
@[simp] theorem commitPop_applyPending (s : State) : (commitPop s).applyPending = s.applyPending := rfl
@[simp] theorem commitPop_engine (s : State) : (commitPop s).engine = s.engine := rfl
@[simp] theorem commitPop_table (s : State) : (commitPop s).table = s.table := rfl
@[simp] theorem commitPop_arbiter (s : State) : (commitPop s).arbiter = s.arbiter := rfl
@[simp] theorem commitPop_update (s : State) : (commitPop s).update = s.update := rfl
@[simp] theorem commitPop_resolver (s : State) : (commitPop s).resolver = s.resolver := rfl
@[simp] theorem commitPop_tool (s : State) : (commitPop s).tool = { s.tool with log := s.tool.log.drop 1 } := rfl
@[simp] theorem commitPop_builder (s : State) : (commitPop s).builder = s.builder := rfl
@[simp] theorem commitPop_pick0 (s : State) : (commitPop s).pick0 = s.pick0 := rfl
@[simp] theorem commitPop_pick1 (s : State) : (commitPop s).pick1 = s.pick1 := rfl
@[simp] theorem commitPop_appNotices (s : State) : (commitPop s).appNotices = s.appNotices := rfl
@[simp] theorem commitPop_dispNotices (s : State) : (commitPop s).dispNotices = s.dispNotices := rfl
@[simp] theorem commitPop_ports (s : State) : (commitPop s).ports = s.ports := rfl
@[simp] theorem commitPop_masterWrites (s : State) : (commitPop s).masterWrites = s.masterWrites := rfl
@[simp] theorem commitPop_pending (s : State) : (commitPop s).pending = s.pending := rfl

/-! ## `requestApply` -/

@[simp] theorem requestApply_link (s : State) : (requestApply s).link = s.link := rfl
@[simp] theorem requestApply_staged (s : State) : (requestApply s).staged = s.staged := rfl
@[simp] theorem requestApply_active (s : State) : (requestApply s).active = s.active := rfl
@[simp] theorem requestApply_applyPending (s : State) : (requestApply s).applyPending = true := rfl
@[simp] theorem requestApply_engine (s : State) : (requestApply s).engine = s.engine := rfl
@[simp] theorem requestApply_table (s : State) : (requestApply s).table = s.table := rfl
@[simp] theorem requestApply_arbiter (s : State) : (requestApply s).arbiter = s.arbiter := rfl
@[simp] theorem requestApply_update (s : State) : (requestApply s).update = s.update := rfl
@[simp] theorem requestApply_resolver (s : State) : (requestApply s).resolver = s.resolver := rfl
@[simp] theorem requestApply_tool (s : State) : (requestApply s).tool = s.tool := rfl
@[simp] theorem requestApply_builder (s : State) : (requestApply s).builder = s.builder := rfl
@[simp] theorem requestApply_pick0 (s : State) : (requestApply s).pick0 = s.pick0 := rfl
@[simp] theorem requestApply_pick1 (s : State) : (requestApply s).pick1 = s.pick1 := rfl
@[simp] theorem requestApply_appNotices (s : State) : (requestApply s).appNotices = s.appNotices := rfl
@[simp] theorem requestApply_dispNotices (s : State) : (requestApply s).dispNotices = s.dispNotices := rfl
@[simp] theorem requestApply_ports (s : State) : (requestApply s).ports = s.ports := rfl
@[simp] theorem requestApply_masterWrites (s : State) : (requestApply s).masterWrites = s.masterWrites := rfl
@[simp] theorem requestApply_pending (s : State) : (requestApply s).pending = s.pending := rfl

/-! ## `endResolution` -/

@[simp] theorem endResolution_link (r : Resolution) (s : State) : (endResolution r s).link = s.link := rfl
@[simp] theorem endResolution_staged (r : Resolution) (s : State) : (endResolution r s).staged = s.staged := rfl
@[simp] theorem endResolution_active (r : Resolution) (s : State) : (endResolution r s).active = s.active := rfl
@[simp] theorem endResolution_applyPending (r : Resolution) (s : State) : (endResolution r s).applyPending = s.applyPending :=
  rfl
@[simp] theorem endResolution_engine (r : Resolution) (s : State) : (endResolution r s).engine = s.engine := rfl
@[simp] theorem endResolution_table (r : Resolution) (s : State) : (endResolution r s).table = s.table := rfl
@[simp] theorem endResolution_arbiter (r : Resolution) (s : State) : (endResolution r s).arbiter = s.arbiter := rfl
@[simp] theorem endResolution_update (r : Resolution) (s : State) : (endResolution r s).update = s.update := rfl
@[simp] theorem endResolution_tool (r : Resolution) (s : State) : (endResolution r s).tool = s.tool := rfl
@[simp] theorem endResolution_builder (r : Resolution) (s : State) : (endResolution r s).builder = s.builder := rfl
@[simp] theorem endResolution_pick0 (r : Resolution) (s : State) : (endResolution r s).pick0 = s.pick0 := rfl
@[simp] theorem endResolution_pick1 (r : Resolution) (s : State) : (endResolution r s).pick1 = s.pick1 := rfl
@[simp] theorem endResolution_appNotices (r : Resolution) (s : State) : (endResolution r s).appNotices = s.appNotices :=
  rfl
@[simp] theorem endResolution_dispNotices (r : Resolution) (s : State) : (endResolution r s).dispNotices = s.dispNotices :=
  rfl
@[simp] theorem endResolution_ports (r : Resolution) (s : State) : (endResolution r s).ports = s.ports := rfl
@[simp] theorem endResolution_masterWrites (r : Resolution) (s : State) : (endResolution r s).masterWrites = s.masterWrites :=
  rfl
@[simp] theorem endResolution_pending (r : Resolution) (s : State) : (endResolution r s).pending = s.pending := rfl

/-! ## `abandonResolution` -/

@[simp] theorem abandonResolution_link (s : State) : (abandonResolution s).link = s.link := rfl
@[simp] theorem abandonResolution_staged (s : State) : (abandonResolution s).staged = s.staged := rfl
@[simp] theorem abandonResolution_active (s : State) : (abandonResolution s).active = s.active := rfl
@[simp] theorem abandonResolution_applyPending (s : State) : (abandonResolution s).applyPending = s.applyPending :=
  rfl
@[simp] theorem abandonResolution_engine (s : State) : (abandonResolution s).engine = s.engine := rfl
@[simp] theorem abandonResolution_table (s : State) : (abandonResolution s).table = s.table := rfl
@[simp] theorem abandonResolution_arbiter (s : State) : (abandonResolution s).arbiter = s.arbiter := rfl
@[simp] theorem abandonResolution_update (s : State) : (abandonResolution s).update = s.update := rfl
@[simp] theorem abandonResolution_tool (s : State) : (abandonResolution s).tool = s.tool := rfl
@[simp] theorem abandonResolution_builder (s : State) : (abandonResolution s).builder = s.builder := rfl
@[simp] theorem abandonResolution_pick0 (s : State) : (abandonResolution s).pick0 = s.pick0 := rfl
@[simp] theorem abandonResolution_pick1 (s : State) : (abandonResolution s).pick1 = s.pick1 := rfl
@[simp] theorem abandonResolution_appNotices (s : State) : (abandonResolution s).appNotices = s.appNotices := rfl
@[simp] theorem abandonResolution_dispNotices (s : State) : (abandonResolution s).dispNotices = s.dispNotices := rfl
@[simp] theorem abandonResolution_ports (s : State) : (abandonResolution s).ports = s.ports := rfl
@[simp] theorem abandonResolution_masterWrites (s : State) : (abandonResolution s).masterWrites = s.masterWrites :=
  rfl
@[simp] theorem abandonResolution_pending (s : State) : (abandonResolution s).pending = s.pending := rfl

/-! ## `startResolution` -/

@[simp] theorem startResolution_link (c : Point) (m : Mode) (st : Settings) (sc : Int) (a : Option Point) (s : State) : (startResolution c m st sc a s).link = s.link :=
  rfl
@[simp] theorem startResolution_staged (c : Point) (m : Mode) (st : Settings) (sc : Int) (a : Option Point) (s : State) : (startResolution c m st sc a s).staged = s.staged :=
  rfl
@[simp] theorem startResolution_active (c : Point) (m : Mode) (st : Settings) (sc : Int) (a : Option Point) (s : State) : (startResolution c m st sc a s).active = s.active :=
  rfl
@[simp] theorem startResolution_applyPending (c : Point) (m : Mode) (st : Settings) (sc : Int) (a : Option Point) (s : State) : (startResolution c m st sc a s).applyPending = s.applyPending :=
  rfl
@[simp] theorem startResolution_engine (c : Point) (m : Mode) (st : Settings) (sc : Int) (a : Option Point) (s : State) : (startResolution c m st sc a s).engine = s.engine :=
  rfl
@[simp] theorem startResolution_table (c : Point) (m : Mode) (st : Settings) (sc : Int) (a : Option Point) (s : State) : (startResolution c m st sc a s).table = s.table :=
  rfl
@[simp] theorem startResolution_arbiter (c : Point) (m : Mode) (st : Settings) (sc : Int) (a : Option Point) (s : State) : (startResolution c m st sc a s).arbiter = s.arbiter :=
  rfl
@[simp] theorem startResolution_update (c : Point) (m : Mode) (st : Settings) (sc : Int) (a : Option Point) (s : State) : (startResolution c m st sc a s).update = s.update :=
  rfl
@[simp] theorem startResolution_tool (c : Point) (m : Mode) (st : Settings) (sc : Int) (a : Option Point) (s : State) : (startResolution c m st sc a s).tool = s.tool :=
  rfl
@[simp] theorem startResolution_builder (c : Point) (m : Mode) (st : Settings) (sc : Int) (a : Option Point) (s : State) : (startResolution c m st sc a s).builder = s.builder :=
  rfl
@[simp] theorem startResolution_pick0 (c : Point) (m : Mode) (st : Settings) (sc : Int) (a : Option Point) (s : State) : (startResolution c m st sc a s).pick0 = s.pick0 :=
  rfl
@[simp] theorem startResolution_pick1 (c : Point) (m : Mode) (st : Settings) (sc : Int) (a : Option Point) (s : State) : (startResolution c m st sc a s).pick1 = s.pick1 :=
  rfl
@[simp] theorem startResolution_appNotices (c : Point) (m : Mode) (st : Settings) (sc : Int) (a : Option Point) (s : State) : (startResolution c m st sc a s).appNotices = s.appNotices :=
  rfl
@[simp] theorem startResolution_dispNotices (c : Point) (m : Mode) (st : Settings) (sc : Int) (a : Option Point) (s : State) : (startResolution c m st sc a s).dispNotices = s.dispNotices :=
  rfl
@[simp] theorem startResolution_ports (c : Point) (m : Mode) (st : Settings) (sc : Int) (a : Option Point) (s : State) : (startResolution c m st sc a s).ports = s.ports :=
  rfl
@[simp] theorem startResolution_masterWrites (c : Point) (m : Mode) (st : Settings) (sc : Int) (a : Option Point) (s : State) : (startResolution c m st sc a s).masterWrites = s.masterWrites :=
  rfl
@[simp] theorem startResolution_pending (c : Point) (m : Mode) (st : Settings) (sc : Int) (a : Option Point) (s : State) : (startResolution c m st sc a s).pending = s.pending :=
  rfl

/-! ## `toolResetEvent` -/

@[simp] theorem toolResetEvent_link (s : State) : (toolResetEvent s).link = s.link := rfl
@[simp] theorem toolResetEvent_staged (s : State) : (toolResetEvent s).staged = s.staged := rfl
@[simp] theorem toolResetEvent_active (s : State) : (toolResetEvent s).active = s.active := rfl
@[simp] theorem toolResetEvent_applyPending (s : State) : (toolResetEvent s).applyPending = s.applyPending := rfl
@[simp] theorem toolResetEvent_engine (s : State) : (toolResetEvent s).engine = s.engine := rfl
@[simp] theorem toolResetEvent_table (s : State) : (toolResetEvent s).table = s.table := rfl
@[simp] theorem toolResetEvent_arbiter (s : State) : (toolResetEvent s).arbiter = s.arbiter := rfl
@[simp] theorem toolResetEvent_update (s : State) : (toolResetEvent s).update = s.update := rfl
@[simp] theorem toolResetEvent_resolver (s : State) : (toolResetEvent s).resolver = s.resolver := rfl
@[simp] theorem toolResetEvent_tool (s : State) : (toolResetEvent s).tool = { s.tool with context := ToolContext.empty, drag := Drag.empty, log := [] } :=
  rfl
@[simp] theorem toolResetEvent_builder (s : State) : (toolResetEvent s).builder = { s.builder with rebuild := s.builder.rebuild || true } :=
  rfl
@[simp] theorem toolResetEvent_pick0 (s : State) : (toolResetEvent s).pick0 = s.pick0 := rfl
@[simp] theorem toolResetEvent_pick1 (s : State) : (toolResetEvent s).pick1 = s.pick1 := rfl
@[simp] theorem toolResetEvent_appNotices (s : State) : (toolResetEvent s).appNotices = s.appNotices := rfl
@[simp] theorem toolResetEvent_dispNotices (s : State) : (toolResetEvent s).dispNotices = s.dispNotices := rfl
@[simp] theorem toolResetEvent_ports (s : State) : (toolResetEvent s).ports = s.ports := rfl
@[simp] theorem toolResetEvent_masterWrites (s : State) : (toolResetEvent s).masterWrites = s.masterWrites := rfl
@[simp] theorem toolResetEvent_pending (s : State) : (toolResetEvent s).pending = s.pending := rfl

end Sys2Proof.Machine
end

