-- ==== Sys2Proof/Laws/Frames.lean ====
section
/-! SUPPORT. One lemma for each shared operation that says once what it does to the state, so that proofs cite it and do
not unfold the operation. `{ s with … }` says that every piece of state not named keeps its value. -/

namespace Sys2Proof.Machine

/-! ## The link receiver -/

/-- What the health operations do (R32 to R34). -/
theorem setHealth_eq (errors : BitVec 8) (run : BitVec 7) (s : State) :
    setHealth errors run s =
      { s with
        link := { s.link with errors := errors, run := run }
        appNotices := { s.appNotices with
          raised := s.appNotices.raised
            ||| (if linkStateOf errors ≠ s.link.state then oneBit 14 AppNotice.linkState.bit else 0)
            ||| (if s.link.errors.toNat < 96 ∧ 96 ≤ errors.toNat then oneBit 14 AppNotice.linkWarn.bit else 0) }
        builder := { s.builder with
          rebuild := s.builder.rebuild || decide (linkStateOf errors ≠ s.link.state) } } := by
  unfold setHealth
  by_cases h1 : linkStateOf errors = s.link.state <;>
    by_cases h2 : s.link.errors.toNat < 96 ∧ 96 ≤ errors.toNat <;>
    simp [h1, h2, raiseApp, requestRebuild, requestRebuildIf, State.withLink, NoticeUnit.raise, Config.errorWarn]

/-- What the loss of the cursor does (R39, R42). -/
theorem cursorLost_eq (s : State) :
    cursorLost s =
      { s with
        link := { s.link with
          condition := .none
          fValid := false
          buttons := if s.link.condition = .none then s.link.buttons else buttonsReleased }
        builder := { s.builder with rebuild := s.builder.rebuild || decide (s.link.condition ≠ .none) } } := by
  unfold cursorLost
  by_cases h : s.link.condition = .none <;> simp [h, requestRebuildIf, State.withLink]

/-- What a change of presence raises (R37). -/
theorem notePresenceChange_eq (device : Fin 8) (changed : Bool) (s : State) :
    notePresenceChange device changed s =
      { s with
        appNotices := { s.appNotices with
          raised := s.appNotices.raised
            ||| (if changed ∧ device = s.active.device then oneBit 14 AppNotice.presenceChange.bit else 0) }
        builder := { s.builder with
          rebuild := s.builder.rebuild || decide (changed = true ∧ device = s.active.device) } } := by
  unfold notePresenceChange
  by_cases h : changed = true ∧ device = s.active.device <;>
    simp [h, raiseApp, requestRebuild, requestRebuildIf, NoticeUnit.raise]

/-- An operation of the link receiver changes the receiver, application notices and the rebuild flag, nothing else. -/
def LinkFrame (s t : State) : Prop :=
  ∃ l n r, t = { s with link := l, appNotices := n, builder := { s.builder with rebuild := r } }

theorem LinkFrame.refl (s : State) : LinkFrame s s := ⟨_, _, _, rfl⟩

theorem LinkFrame.trans {s t u : State} (h : LinkFrame s t) (k : LinkFrame t u) : LinkFrame s u := by
  obtain ⟨l, n, r, rfl⟩ := h
  obtain ⟨l', n', r', rfl⟩ := k
  exact ⟨l', n', r', rfl⟩

theorem setHealth_frame (e : BitVec 8) (r : BitVec 7) (s : State) : LinkFrame s (setHealth e r s) :=
  ⟨_, _, _, setHealth_eq e r s⟩

theorem cursorLost_frame (s : State) : LinkFrame s (cursorLost s) :=
  ⟨_, s.appNotices, _, cursorLost_eq s⟩

theorem notePresenceChange_frame (d : Fin 8) (c : Bool) (s : State) : LinkFrame s (notePresenceChange d c s) :=
  ⟨s.link, _, _, notePresenceChange_eq d c s⟩

theorem setAssembler_frame (a : Assembler) (s : State) : LinkFrame s (setAssembler a s) := ⟨_, _, _, rfl⟩

theorem frameError_frame (s : State) : LinkFrame s (frameError s) :=
  (setAssembler_frame _ s).trans (setHealth_frame _ _ _)

theorem countGoodFrame_frame (s : State) : LinkFrame s (countGoodFrame s) := by
  unfold countGoodFrame
  split
  · split <;> exact setHealth_frame _ _ _
  · exact setHealth_frame _ _ _

theorem markPresent_frame (time : Nat) (d : Fin 8) (s : State) : LinkFrame s (markPresent time d s) :=
  LinkFrame.trans ⟨_, _, _, rfl⟩ (notePresenceChange_frame d _ _)

theorem expirePresence_frame (d : Fin 8) (s : State) : LinkFrame s (expirePresence d s) := by
  have h : LinkFrame s (notePresenceChange d s.link.presence[d].isPresent
      (s.withLink { s.link with presence := s.link.presence.set d .absent })) :=
    LinkFrame.trans ⟨_, _, _, rfl⟩ (notePresenceChange_frame d _ _)
  unfold expirePresence
  dsimp only
  split
  · exact h.trans (cursorLost_frame _)
  · exact h

theorem queuePress_frame (e : QueueEntry) (s : State) : LinkFrame s (queuePress e s) := by
  unfold queuePress
  split
  · exact ⟨_, _, _, rfl⟩
  · exact ⟨_, _, _, rfl⟩

theorem examineButtons_frame (time : Nat) (fr : Frame) (s : State) : LinkFrame s (examineButtons time fr s) := by
  unfold examineButtons
  dsimp only
  split
  · exact ⟨_, _, _, rfl⟩
  · exact LinkFrame.trans ⟨_, _, _, rfl⟩ (queuePress_frame _ _)

theorem useFrame_frame (time : Nat) (fr : Frame) (s : State) : LinkFrame s (useFrame time fr s) := by
  unfold useFrame
  split
  · exact LinkFrame.trans ⟨_, _, _, rfl⟩ (examineButtons_frame _ _ _)
  · exact ⟨_, _, _, rfl⟩

theorem goodFrame_frame (time : Nat) (fr : Frame) (s : State) : LinkFrame s (goodFrame time fr s) := by
  have h := (countGoodFrame_frame s).trans (markPresent_frame time fr.device _)
  unfold goodFrame
  dsimp only
  split
  · exact h.trans (useFrame_frame _ _ _)
  · exact h

theorem startFrame_frame (time : Nat) (b : Byte) (s : State) : LinkFrame s (startFrame time b s) := by
  unfold startFrame
  split
  · exact setAssembler_frame _ _
  · exact frameError_frame _

theorem takeBodyByte_frame (time : Nat) (held : List Byte) (b : Byte) (s : State) :
    LinkFrame s (takeBodyByte time held b s) := by
  unfold takeBodyByte
  split
  · split
    · exact (setAssembler_frame _ _).trans (goodFrame_frame _ _ _)
    · exact frameError_frame _
  · split
    · exact frameError_frame _
    · exact setAssembler_frame _ _

/-- A byte of the tablet line changes the receiver, application notices and the rebuild flag, nothing else (R27 to
R44). -/
theorem takeByte_frame (time : Nat) (sound : Bool) (b : Byte) (s : State) : LinkFrame s (takeByte time sound b s) := by
  unfold takeByte
  split
  · split
    · exact startFrame_frame _ _ _
    · exact LinkFrame.refl _
  · split
    · exact frameError_frame _
    · split
      · exact (frameError_frame _).trans (startFrame_frame _ _ _)
      · exact takeBodyByte_frame _ _ _ _

theorem gapExpires_frame (time : Nat) (s : State) : LinkFrame s (gapExpires time s) := by
  unfold gapExpires
  split
  · exact LinkFrame.refl _
  · split
    · exact frameError_frame _
    · exact LinkFrame.refl _

theorem presenceExpires_frame (time : Nat) (d : Fin 8) (s : State) : LinkFrame s (presenceExpires time d s) := by
  unfold presenceExpires
  split
  · exact LinkFrame.refl _
  · split
    · exact expirePresence_frame _ _
    · exact LinkFrame.refl _

theorem linkRestart_frame (s : State) : LinkFrame s (linkRestart s) :=
  (setAssembler_frame _ s).trans (setHealth_frame _ _ _)

theorem resetLink_frame (s : State) : LinkFrame s (resetLink s) :=
  (cursorLost_frame s).trans ⟨_, _, _, rfl⟩

/-! ## The table access arbiter -/

/-- An arbitration grants nothing, or makes the one grant that is due (R76). -/
theorem arbitrate_cases (s : State) :
    (arbitrate s = s ∧ (s.arbiter.holder ≠ none ∨ s.arbiter.next = none)) ∨
      ∃ r, s.arbiter.holder = none ∧ s.arbiter.next = some r ∧ arbitrate s = grantTo r s := by
  unfold arbitrate
  cases h : s.arbiter.holder with
  | some r => exact .inl ⟨rfl, .inl (by simp)⟩
  | none =>
    cases k : s.arbiter.next with
    | none => exact .inl ⟨rfl, .inr rfl⟩
    | some r => exact .inr ⟨r, rfl, rfl, rfl⟩

/-- While a grant is held, an arbitration changes nothing (R76). -/
theorem arbitrate_held (s : State) (r : Requester) (h : s.arbiter.holder = some r) : arbitrate s = s := by
  unfold arbitrate
  rw [h]

/-- A grant changes the arbiter, and the stage of the list or the control state of the slot granted (R76, R85, R173). -/
theorem grantTo_frame (r : Requester) (s : State) :
    ∃ f p q, grantTo r s =
      { s with
        arbiter := ⟨some r, s.arbiter.waiting.set r false, s.arbiter.turn.after r⟩
        update := { s.update with inFlight := f }
        pick0 := { s.pick0 with control := p }
        pick1 := { s.pick1 with control := q } } := by
  cases r with
  | commit => exact ⟨_, _, _, rfl⟩
  | build => exact ⟨_, _, _, rfl⟩
  | pick0 => exact ⟨_, _, _, rfl⟩
  | pick1 => exact ⟨_, _, _, rfl⟩
  | update =>
    unfold grantTo enterGrant
    dsimp only
    split
    · exact ⟨_, _, _, rfl⟩
    · exact ⟨_, _, _, rfl⟩

/-- An arbitration changes the arbiter, the stage of the list in flight and the slots' control states alone. -/
theorem arbitrate_frame (s : State) :
    ∃ a f p q, arbitrate s =
      { s with
        arbiter := a
        update := { s.update with inFlight := f }
        pick0 := { s.pick0 with control := p }
        pick1 := { s.pick1 with control := q } } := by
  rcases arbitrate_cases s with ⟨h, -⟩ | ⟨r, -, -, h⟩
  · exact ⟨_, _, _, _, h⟩
  · obtain ⟨f, p, q, k⟩ := grantTo_frame r s
    exact ⟨_, f, p, q, h.trans k⟩

/-- A request changes no more than an arbitration does (R75, R76). -/
theorem request_frame (r : Requester) (s : State) :
    ∃ a f p q, request r s =
      { s with
        arbiter := a
        update := { s.update with inFlight := f }
        pick0 := { s.pick0 with control := p }
        pick1 := { s.pick1 with control := q } } := by
  obtain ⟨a, f, p, q, h⟩ := arbitrate_frame (s.withArbiter { s.arbiter with waiting := s.arbiter.waiting.set r true })
  exact ⟨a, f, p, q, h⟩

/-- With a grant held, a request only waits (R76). -/
theorem request_held (r x : Requester) (s : State) (h : s.arbiter.holder = some x) :
    request r s = { s with arbiter := { s.arbiter with waiting := s.arbiter.waiting.set r true } } :=
  arbitrate_held _ x h

/-- A release with nobody waiting and no apply pending frees the table and does nothing else (R76, R149). -/
theorem releaseGrant_quiet (s : State) (h : s.applyPending = false) (w : ∀ r, s.arbiter.waiting.get r = false) :
    releaseGrant s = { s with arbiter := { s.arbiter with holder := none } } := by
  have h0 := w .commit
  have h1 := w .build
  have h2 := w .update
  have h3 := w .pick0
  have h4 := w .pick1
  unfold releaseGrant freeHolder arbitrate
  simp only [State.withArbiter, h, Bool.and_false, Bool.false_eq_true, if_false, Arbiter.next]
  cases ht : s.arbiter.turn <;>
    simp_all [Requests.get, Turn.order, List.find?, Turn.requester]

/-! ## A cell's grant: the begin of its op, and the withdrawal at a reset (R77, R85, R96) -/

/-- The begin of a granted op changes the stage of the list in flight from granted to applying, and nothing else; with
no cell granted it does nothing (R85). -/
theorem beginGrantedCell_cases (s : State) :
    (∃ list applied cell c, s.update.inFlight = some ⟨list, applied, cell, .granted c⟩ ∧
        beginGrantedCell s =
          { s with update := { s.update with inFlight := some ⟨list, applied, cell, .applying c⟩ } }) ∨
      beginGrantedCell s = s := by
  unfold beginGrantedCell
  split
  · rename_i list applied cell c h
    exact .inl ⟨list, applied, cell, c, h, rfl⟩
  · exact .inr rfl

/-- A withdrawal ends a requester's waiting, frees the table when that requester holds it, and keeps the round-robin
position (R77). -/
theorem withdraw_eq (r : Requester) (s : State) :
    withdraw r s = { s with arbiter :=
      ⟨if s.arbiter.holder = some r then none else s.arbiter.holder, s.arbiter.waiting.set r false,
        s.arbiter.turn⟩ } := rfl

/-- ENGINE_RESET at the update engine: at a boundary reached at once the lists are dropped and UPDATE is withdrawn;
otherwise nothing happens before the awaited completion (R96). -/
theorem resetUpdate_cases (s : State) :
    (boundaryAtOnce s.update.inFlight = true ∧ resetUpdate s =
        { withdraw .update s with update := { s.update with
          inFlight := none, waiting := none, teardown := false, done := 0, record := LastList.cleared } }) ∨
      (boundaryAtOnce s.update.inFlight = false ∧ resetUpdate s = s) := by
  unfold resetUpdate
  split
  · rename_i h
    exact .inl ⟨h, rfl⟩
  · rename_i h
    exact .inr ⟨Bool.eq_false_iff.mpr h, rfl⟩

/-! ## Engine state, lists and ports -/

/-- What the return to RUN does (R183). -/
theorem settleReset_cases (s : State) :
    (s.engine = .resetting ∧ s.update.inFlight = none ∧ s.tool.commit = none ∧
        settleReset s = { s with
          engine := .run, appNotices := { s.appNotices with
            raised := s.appNotices.raised ||| oneBit 14 AppNotice.resetDone.bit } }) ∨
      settleReset s = s := by
  unfold settleReset
  split
  · rename_i h
    exact .inl ⟨h.1, h.2.1, h.2.2, rfl⟩
  · exact .inr rfl

/-- An operation of the update engine's list queue changes the engine's block and application notices, nothing else. -/
def ListFrame (s t : State) : Prop := ∃ u n, t = { s with update := u, appNotices := n }

theorem ListFrame.trans {s t u : State} (h : ListFrame s t) (k : ListFrame t u) : ListFrame s u := by
  obtain ⟨a, n, rfl⟩ := h
  obtain ⟨b, m, rfl⟩ := k
  exact ⟨b, m, rfl⟩

theorem recordEnding_frame (r : LastList) (s : State) : ListFrame s (recordEnding r s) := by
  unfold recordEnding
  split
  · exact ⟨_, _, rfl⟩
  · exact ⟨_, _, rfl⟩

theorem beginList_frame (l : Submitted) (s : State) : ListFrame s (beginList l s) := by
  unfold beginList
  split
  · exact (recordEnding_frame _ s).trans ⟨_, _, rfl⟩
  · split
    · exact (recordEnding_frame _ s).trans ⟨_, _, rfl⟩
    · exact ⟨_, _, rfl⟩

/-- The ending of a list changes the update engine and application notices, nothing else (R90). -/
theorem endList_frame (f : InFlight) (status : ListStatus) (s : State) : ListFrame s (endList f status s) := by
  have h : ListFrame s (State.withUpdate (recordEnding ⟨f.list, status, f.applied, f.cell⟩ s)
      { (recordEnding ⟨f.list, status, f.applied, f.cell⟩ s).update with
        inFlight := none, waiting := none, teardown := false }) :=
    (recordEnding_frame _ s).trans ⟨_, _, rfl⟩
  unfold endList afterEnding
  dsimp only
  split
  · exact h
  · split
    · exact h.trans (recordEnding_frame _ _)
    · exact h.trans (beginList_frame _ _)

theorem submit_frame (high : Half) (s : State) : ListFrame s (submit high s) := by
  unfold submit
  split
  · exact ⟨_, _, rfl⟩
  · dsimp only
    split
    · exact ⟨_, _, rfl⟩
    · exact ListFrame.trans ⟨_, _, rfl⟩ (beginList_frame _ _)

/-- A drag cell changes the tool unit's drag, the list's stage and the rebuild flag, nothing else (R86, R87). -/
theorem applyDrag_eq (f : InFlight) (c : Cell) (s : State) :
    applyDrag f c s =
      { s with
        update := { s.update with inFlight := some { f with
          stage := .writingBack c none (writeBackControl c (dragOutcome s.tool.drag c).2) } }
        tool := { s.tool with drag := (dragOutcome s.tool.drag c).1 }
        builder := { s.builder with
          rebuild := s.builder.rebuild || (dragOutcome s.tool.drag c).2 == .ok } } := rfl

/-- A DATA access moves INDEX of its port and nothing else (R179). -/
theorem accessed_frame (port : PortId) (loc : Nat) (s : State) :
    ∃ p, accessed port loc s = { s with ports := p } := by
  cases port <;> exact ⟨_, rfl⟩

/-! ## The taking of an apply -/

theorem applyRate_frame (old new : Settings) (s : State) : LinkFrame s (applyRate old new s) := by
  unfold applyRate
  split
  · exact LinkFrame.refl _
  · exact setAssembler_frame _ _

theorem applyDevice_frame (old new : Settings) (s : State) : LinkFrame s (applyDevice old new s) := by
  have h : LinkFrame s (State.withLink (cursorLost s) { (cursorLost s).link with buttons := buttonsReleased }) :=
    (cursorLost_frame s).trans ⟨_, _, _, rfl⟩
  unfold applyDevice
  dsimp only
  split
  · exact LinkFrame.refl _
  · split
    · exact h.trans ⟨_, _, _, rfl⟩
    · exact h

theorem applyTool_frame (old new : Settings) (s : State) :
    ∃ c d, applyTool old new s = { s with tool := { s.tool with context := c, drag := d } } := by
  unfold applyTool
  split
  · exact ⟨_, _, rfl⟩
  · exact ⟨_, _, rfl⟩

/-- What the taking of an apply does (R185), besides the actions of link receiver and tool unit (R31, R37, R42, R124):
the active set is the clamped staged set, the learned list is trimmed, apply pending is clear and a rebuild is
requested. -/
theorem takeApply_frame (s : State) :
    ∃ l n c d, takeApply s =
      { s with
        active := s.staged.clamped s.active.tool
        applyPending := false
        link := l
        appNotices := n
        table := s.table.trim (s.staged.clamped s.active.tool).learnCap.toNat
        tool := { s.tool with context := c, drag := d }
        builder := { s.builder with rebuild := true } } := by
  unfold takeApply
  dsimp only
  generalize s.staged.clamped s.active.tool = new
  obtain ⟨c, d, h1⟩ := applyTool_frame s.active new { s with active := new }
  rw [h1]
  dsimp only
  generalize h2 : putTable (s.table.trim new.learnCap.toNat)
    { s with active := new, tool := { s.tool with context := c, drag := d } } = u
  obtain ⟨l, n, r, h3⟩ := (applyRate_frame s.active new u).trans (applyDevice_frame s.active new _)
  rw [h3]
  subst h2
  split
  · exact ⟨l, (n.raise AppNotice.settingsApplied.bit).raise AppNotice.settingHeld.bit, c, d,
      by simp [requestRebuild, requestRebuildIf, putTable, raiseApp]⟩
  · exact ⟨l, n.raise AppNotice.settingsApplied.bit, c, d,
      by simp [requestRebuild, requestRebuildIf, putTable, raiseApp]⟩

/-! ## The snap target table -/

/-- Entering a slot in bins or wide list leaves the slots, the learned list, window and generation (R59). -/
theorem Table.enter_kept (t : Table) (n : SlotNo) (p : Placement) :
    (t.enter n p).slots = t.slots ∧ (t.enter n p).learned = t.learned ∧ (t.enter n p).originX = t.originX ∧
      (t.enter n p).originY = t.originY ∧ (t.enter n p).k = t.k ∧ (t.enter n p).generation = t.generation := by
  cases p <;> exact ⟨rfl, rfl, rfl, rfl, rfl, rfl⟩

/-- Leaving bins or wide list leaves the slots, the learned list, window and generation (R63). -/
theorem Table.leave_kept (t : Table) (n : SlotNo) (p : Placement) :
    (t.leave n p).slots = t.slots ∧ (t.leave n p).learned = t.learned ∧ (t.leave n p).originX = t.originX ∧
      (t.leave n p).originY = t.originY ∧ (t.leave n p).k = t.k ∧ (t.leave n p).generation = t.generation := by
  cases p <;> exact ⟨rfl, rfl, rfl, rfl, rfl, rfl⟩

/-- A target entered in a slot stands there, and every other slot keeps its own (R57). -/
theorem Table.take_slots (t : Table) (n m : SlotNo) (g : Target) :
    (t.take n g).slots[m] = if m = n then ⟨(t.slots[n]).reuse, some g⟩ else t.slots[m] := by
  have e : (t.take n g).slots = t.slots.set n ⟨(t.slots[n]).reuse, some g⟩ := by
    have := (t.enter_kept n g.placement).1
    show (t.enter n g.placement).slots.set n ⟨((t.enter n g.placement).slots[n]).reuse, some g⟩ = _
    simp only [this]
  rw [show (t.take n g).slots[m] = (t.slots.set n ⟨(t.slots[n]).reuse, some g⟩)[m] by rw [e]]
  by_cases h : m = n
  · subst h
    simp
  · have : n.val ≠ m.val := fun k => h (Fin.ext k.symm)
    simp [h, this]

/-- What a release does (R63). -/
theorem Table.release_eq (t : Table) (n : SlotNo) (g : Target) (h : t.target n = some g) :
    t.release n = { t.leave n g.placement with
      learned := if g.origin = .learned then removeSlot n t.learned else t.learned
      slots := t.slots.set n ⟨(t.slots[n]).reuse + 1, none⟩ } := by
  obtain ⟨h1, h2, -⟩ := t.leave_kept n g.placement
  unfold Table.release
  rw [h]
  simp only [h1, h2]

/-- The release of a FREE slot changes nothing (R63). -/
theorem Table.release_free (t : Table) (n : SlotNo) (h : t.target n = none) : t.release n = t := by
  unfold Table.release
  rw [h]

/-- A release makes its slot FREE with its reuse tag advanced, and leaves every other slot (R56, R63). -/
theorem Table.release_slots (t : Table) (n m : SlotNo) (h : t.target n ≠ none) :
    (t.release n).slots[m] = if m = n then ⟨(t.slots[n]).reuse + 1, none⟩ else t.slots[m] := by
  obtain ⟨g, k⟩ := Option.ne_none_iff_exists'.1 h
  rw [show (t.release n).slots[m] = (t.slots.set n ⟨(t.slots[n]).reuse + 1, none⟩)[m] by
    rw [t.release_eq n g k]]
  by_cases e : m = n
  · subst e
    simp
  · have : n.val ≠ m.val := fun q => e (Fin.ext q.symm)
    simp [e, this]

/-- A release keeps the window and the generation (R63). -/
theorem Table.release_window (t : Table) (n : SlotNo) :
    (t.release n).originX = t.originX ∧ (t.release n).originY = t.originY ∧ (t.release n).k = t.k ∧
      (t.release n).generation = t.generation := by
  cases h : t.target n with
  | none =>
    rw [t.release_free n h]
    exact ⟨rfl, rfl, rfl, rfl⟩
  | some g =>
    rw [t.release_eq n g h]
    exact (t.leave_kept n g.placement).2.2

/-- The release of several slots keeps the window and the generation. -/
theorem Table.releaseAll_window (l : List SlotNo) (t : Table) :
    (t.releaseAll l).originX = t.originX ∧ (t.releaseAll l).originY = t.originY ∧ (t.releaseAll l).k = t.k ∧
      (t.releaseAll l).generation = t.generation := by
  induction l generalizing t with
  | nil => exact ⟨rfl, rfl, rfl, rfl⟩
  | cons n l ih =>
    obtain ⟨h1, h2, h3, h4⟩ := ih (t.release n)
    obtain ⟨k1, k2, k3, k4⟩ := t.release_window n
    exact ⟨h1.trans k1, h2.trans k2, h3.trans k3, h4.trans k4⟩

/-- A slot stands in a set after joining it exactly when it stood there or is the one that joined. -/
theorem mem_insertSlot (n m : SlotNo) (l : List SlotNo) : m ∈ insertSlot n l ↔ m = n ∨ m ∈ l := by
  induction l with
  | nil => simp [insertSlot]
  | cons a l ih =>
    unfold insertSlot
    split
    · simp
    · split
      · rename_i h
        subst h
        simp
      · simp only [List.mem_cons, ih]
        tauto

/-- A slot stands in a set after another left it exactly when it stood there and is not the one that left. -/
theorem mem_removeSlot (n m : SlotNo) (l : List SlotNo) : m ∈ removeSlot n l ↔ m ∈ l ∧ m ≠ n := by
  simp [removeSlot]

/-- A set in ascending order stays so when a slot joins it. -/
theorem insertSlot_sorted (n : SlotNo) (l : List SlotNo) (h : l.Pairwise (· < ·)) :
    (insertSlot n l).Pairwise (· < ·) := by
  induction l with
  | nil => simp [insertSlot]
  | cons a l ih =>
    obtain ⟨h1, h2⟩ := List.pairwise_cons.1 h
    unfold insertSlot
    split
    · rename_i k
      refine List.pairwise_cons.2 ⟨fun b hb => ?_, h⟩
      rcases List.mem_cons.1 hb with rfl | hb
      · exact k
      · exact lt_trans k (h1 b hb)
    · split
      · exact h
      · rename_i k e
        refine List.pairwise_cons.2 ⟨fun b hb => ?_, ih h2⟩
        rcases (mem_insertSlot n b l).1 hb with rfl | hb
        · exact lt_of_le_of_ne (not_lt.1 k) (Ne.symm e)
        · exact h1 b hb

/-- A set in ascending order stays so when a slot leaves it. -/
theorem removeSlot_sorted (n : SlotNo) (l : List SlotNo) (h : l.Pairwise (· < ·)) :
    (removeSlot n l).Pairwise (· < ·) := List.Pairwise.filter _ h

end Sys2Proof.Machine
end

