-- ==== Sys2Proof/Laws/Blocks.lean ====
section
/-! SUPPORT. What the operations of resolver, tool unit, builder and pick unit do to the state, once for each. -/

namespace Sys2Proof.Machine

/-! ## The resolver -/

/-- The emptying of the capture (R114): at once, or at the end of the resolution in progress. -/
theorem emptyCapture_eq (s : State) :
    emptyCapture s =
      { s with resolver :=
          ⟨if s.resolver.resolution = none then none else s.resolver.capture,
            s.resolver.emptying || s.resolver.resolution.isSome, s.resolver.resolution⟩ } := by
  unfold emptyCapture
  cases h : s.resolver.resolution <;> simp [State.withResolver, h]

/-- A resolution changes nothing but the resolver: its start fixes the inputs and reads the capture (R100, R120). -/
theorem startResolution_eq (c : Point) (mode : Mode) (settings : Settings) (scale : Int) (anchor : Option Point)
    (s : State) :
    startResolution c mode settings scale anchor s =
      { s with resolver := { s.resolver with
          resolution := some ⟨c, mode, settings, scale, anchor, s.resolver.capture⟩ } } := rfl

/-- The end of a resolution updates the capture from the result (R113, R114). -/
theorem endResolution_eq (r : Resolution) (s : State) :
    endResolution r s =
      { s with resolver := ⟨if s.resolver.emptying then none else captureOf r, false, none⟩ } := rfl

/-! ## The tool unit -/

/-- The button event queue loses the handled button and nothing else changes (R126). -/
theorem handlePress_eq (c : CommitInHand) (s : State) :
    handlePress c s =
      { s with link := { s.link with
          queue := if c.queued then queueAfter c.button s.link.queue else s.link.queue } } := by
  unfold handlePress
  cases h : c.queued <;> simp [State.withLink]

/-- A record joins the log under the next sequence number (R141, R142). -/
theorem appendRecord_eq (r : CommitRecord) (s : State) :
    appendRecord r s =
      { s with tool := { s.tool with
          log := s.tool.log ++ [{ r with seq := s.tool.sequence + 1 }], sequence := s.tool.sequence + 1 } } := rfl

/-- A change of context or figure requests a rebuild (R139). -/
theorem putContext_eq (ctx : ToolContext) (d : Drag) (s : State) :
    putContext ctx d s =
      { s with
        tool := { s.tool with context := ctx, drag := d }
        builder := { s.builder with
          rebuild := s.builder.rebuild || (ctx != s.tool.context || d != s.tool.drag) } } := rfl

/-- A drag cell that waits makes its change; otherwise nothing changes (R87). -/
theorem applyWaitingDrag_none (s : State) (h : ∀ c, s.update.inFlight.map InFlight.stage ≠ some (.waiting c)) :
    applyWaitingDrag s = s := by
  unfold applyWaitingDrag
  split
  · rename_i list applied cell c k
    exact absurd (by rw [k]; rfl) (h c)
  · rfl

/-- The end of a commit in RUN with no apply pending, nobody waiting and no drag cell waiting: the press is handled, no
commit is left and the grant is released (R126, R127). -/
theorem endCommit_quiet (c : CommitInHand) (s : State) (run : s.engine = .run) (apply : s.applyPending = false)
    (waits : ∀ r, s.arbiter.waiting.get r = false)
    (drag : ∀ c, s.update.inFlight.map InFlight.stage ≠ some (.waiting c)) :
    endCommit c s =
      { s with
        tool := { s.tool with commit := none }
        link := { s.link with
          queue := if c.queued then queueAfter c.button s.link.queue else s.link.queue }
        arbiter := { s.arbiter with holder := none } } := by
  have still : applyWaitingDrag (handlePress c (s.withTool { s.tool with commit := none })) =
      handlePress c (s.withTool { s.tool with commit := none }) :=
    applyWaitingDrag_none _ (by rw [handlePress_eq]; exact drag)
  have stays : (handlePress c (s.withTool { s.tool with commit := none })).engine = .run := by
    rw [handlePress_eq]
    exact run
  unfold endCommit
  simp only [still, settleReset, stays, reduceCtorEq, false_and, if_false]
  rw [releaseGrant_quiet _ (by rw [handlePress_eq]; exact apply) (by rw [handlePress_eq]; exact waits), handlePress_eq]
  rfl

/-! ## The preview builder -/

/-- A build takes its bank: the bank is BUILDING, the flag clear, the snapshot taken (R148, R150, R151). -/
theorem beginBuild_eq (bank : Fin 3) (s : State) :
    beginBuild bank s =
      afterSnapshot (buildSort (takeSnapshot s))
        { s with builder := { s.builder with
            rebuild := false
            banks := setBankState s.builder.banks bank .building
            build := some ⟨bank, s.builder.counter + 1, takeSnapshot s, buildSort (takeSnapshot s),
              firstPhase (buildSort (takeSnapshot s)) s.table.generation⟩ } } := rfl

/-- A build start without an apply pending takes the lowest FREE bank (R148). -/
theorem tryBuildStart_free (s : State) (bank : Fin 3) (h : freeBank s.builder.banks = some bank)
    (due : buildDue s = true) (apply : s.applyPending = false) : tryBuildStart s = beginBuild bank s := by
  simp [tryBuildStart, due, apply, makeBuildStart, h]

/-- Nothing changes at a build start whose conditions do not hold (R148; log 3). -/
theorem tryBuildStart_idle (s : State) (due : buildDue s = false) : tryBuildStart s = s := by
  simp [tryBuildStart, due]

/-- A frame start changes the builder and the display notices, nothing else (R166). -/
theorem frameStart_frame (s : State) : ∃ b n, frameStart s = { s with builder := b, dispNotices := n } := by
  unfold frameStart commitView
  dsimp only
  split
  · exact ⟨_, s.dispNotices, rfl⟩
  · split
    · exact ⟨_, _, rfl⟩
    · exact ⟨_, s.dispNotices, rfl⟩

/-- A build completion changes the builder and the display notices, nothing else (R163). -/
theorem completeBuild_frame (s : State) : ∃ b n, completeBuild s = { s with builder := b, dispNotices := n } := by
  unfold completeBuild
  split
  · exact ⟨_, _, rfl⟩
  · exact ⟨s.builder, s.dispNotices, rfl⟩

/-- A read of STREAM advances the pointer by at most one and changes nothing else of the builder (R167). -/
theorem advanceStream_eq (s : State) :
    advanceStream s =
      { s with builder := { s.builder with
          streamPtr :=
            if s.builder.streamPtr < (shownWords s.builder).length then s.builder.streamPtr + 1
            else s.builder.streamPtr } } := by
  unfold advanceStream
  split <;> simp_all [State.withBuilder]

/-! ## The pick unit -/

/-- A write to a busy slot only sets WRITE_BLOCKED (R174). -/
theorem writePick_busy (i : PickId) (input : PickInput) (v : Word) (s : State) (h : (s.pick i).control ≠ .idle) :
    writePick i input v s = s.withPick i { s.pick i with blocked := true } := by
  simp [writePick, h]

/-- A write to an input of an IDLE slot stores it (R171). -/
theorem writePick_idle (i : PickId) (input : PickInput) (v : Word) (s : State) (h : (s.pick i).control = .idle)
    (k : input ≠ .go) : writePick i input v s = s.withPick i ((s.pick i).store input v) := by
  simp [writePick, h, k]

/-- A search changes nothing in the inputs of its slot (R175). -/
theorem PickSlot.withResult_inputs (p : PickSlot) (best : Option Candidate) :
    (p.withResult best).x = p.x ∧ (p.withResult best).y = p.y ∧ (p.withResult best).aperture = p.aperture ∧
      (p.withResult best).choice = p.choice ∧ (p.withResult best).mask = p.mask ∧
      (p.withResult best).matchTag = p.matchTag ∧ (p.withResult best).enables = p.enables := by
  cases best <;> exact ⟨rfl, rfl, rfl, rfl, rfl, rfl, rfl⟩

/-- The best of a set of candidates is one of the set (R108). -/
theorem bestCandidate_mem (l : List Candidate) (b : Candidate) (h : bestCandidate l = some b) : b ∈ l := by
  induction l generalizing b with
  | nil => cases h
  | cons a l ih =>
    simp only [bestCandidate] at h
    split at h
    · cases h
      exact List.mem_cons_self
    · rename_i c k
      split at h <;> cases h
      · exact List.mem_cons_of_mem _ (ih _ k)
      · exact List.mem_cons_self

end Sys2Proof.Machine
end

