-- ==== Sys2Proof/Tests/Slice0.lean ====
section
/-! SUPPORT. Tests of the model against figures the spec works out, and witnesses: for every statement with hypotheses, a
concrete state and operands that meet them. Expected results are the spec's. -/

open Sys2Proof Sys2Proof.Machine Sys2Proof.Claims

namespace Sys2Proof.Tests

-- The theorems are checked one after the other: many kernel evaluations at once take too many threads.
set_option Elab.async false

/-! ## The check of operands refuses ill-formed commands -/

theorem test_wellFormed_refuses_wide_noticeRaw : (Instr.noticeRaw .app 0x10000).wellFormed = false := by decide
theorem test_wellFormed_refuses_wide_enableSet : (Instr.enableSet .app 0x10000).wellFormed = false := by decide
theorem test_wellFormed_refuses_wide_enableClear : (Instr.enableClear .app 0x10000).wellFormed = false := by decide
theorem test_wellFormed_refuses_wide_write :
    (Instr.registerWrite .app .data 0x10000).wellFormed = false ∧
      (Instr.registerWrite .app .index 0x10000).wellFormed = false := by decide
theorem test_wellFormed_refuses_wide_pick_write :
    (Instr.pickBlockedWrite .pick0 .aperture 0x10000).wellFormed = false := by decide
theorem test_wellFormed_refuses_whole_point_on_app :
    (Instr.pickBlockedWrite .pick0 .x 0).wellFormed = false ∧
      (Instr.pickBlockedWrite .pick0 .y 0).wellFormed = false := by decide
theorem test_wellFormed_refuses_half_point_on_disp :
    (Instr.pickBlockedWrite .pick1 .xLow 0).wellFormed = false ∧
      (Instr.pickBlockedWrite .pick1 .xHigh 0).wellFormed = false ∧
      (Instr.pickBlockedWrite .pick1 .yLow 0).wellFormed = false ∧
      (Instr.pickBlockedWrite .pick1 .yHigh 0).wellFormed = false := by decide
theorem test_wellFormed_admits_the_widest :
    (Instr.registerWrite .app .data 0xFFFF).wellFormed = true ∧
      (Instr.noticeRaw .disp 0xFFFFFFFF).wellFormed = true ∧
      (Instr.pickBlockedWrite .pick1 .x 0xFFFFFFFF).wellFormed = true := by decide

/-! ## The worked figures of chapter 1 (section 1.11) -/

/-- The settings of the worked figures (section 1.11). -/
def figSettings : Settings := { Settings.reset with originX := 1000, originY := 1000 }

/-- The view of the worked figures (section 1.11). -/
def figView : View := ⟨-2000, 500, 2560, 4096, 4096⟩

theorem test_cursor_point : cursorPoint figSettings figView ⟨2600, 1800⟩ = ⟨2000, 2500⟩ := by decide
theorem test_calibration_limits :
    calibrate 16383 0 65535 4096 = 65535 ∧ calibrate 999 1000 16384 4096 = 0 := by decide
theorem test_lengths_and_box :
    worldLength 8 2560 = 80 ∧ worldLength 4 2560 = 40 ∧ spanEnd (-2000) 4096 2560 = 38960 ∧
      squareCorners ⟨2000, 2500⟩ 80 = [⟨1920, 2420⟩, ⟨2080, 2420⟩, ⟨2080, 2580⟩, ⟨1920, 2580⟩] := by decide
theorem test_round_half_away :
    roundHalfAway 5 2 = 3 ∧ roundHalfAway (-5) 2 = -3 ∧ roundHalfAway (-1) 2 = -1 ∧ roundHalfAway 4 3 = 1 := by decide
theorem test_grid :
    gridAxis 2000 100 0 = 2000 ∧ gridAxis (-5130) 250 0 = -5250 ∧ gridAxis (-50) 100 0 = 0 ∧
      gridAxis 50 100 0 = 100 := by decide
theorem test_octo :
    constrain .octo ⟨1000, 1000⟩ ⟨1300, 1150⟩ = (⟨1225, 1225⟩, .diagonal) ∧
      constrain .octo ⟨1000, 1000⟩ ⟨1300, 1100⟩ = (⟨1300, 1000⟩, .horizontal) ∧
      constrain .octo ⟨1000, 1000⟩ ⟨1100, 1400⟩ = (⟨1000, 1400⟩, .vertical) ∧
      constrain .octo ⟨1000, 1000⟩ ⟨700, 1300⟩ = (⟨700, 1300⟩, .diagonal) := by decide
theorem test_ortho :
    constrain .ortho ⟨1000, 1000⟩ ⟨1300, 1150⟩ = (⟨1300, 1000⟩, .horizontal) ∧
      constrain .ortho ⟨1000, 1000⟩ ⟨700, 1300⟩ = (⟨700, 1000⟩, .horizontal) ∧
      constrain .ortho ⟨1000, 1000⟩ ⟨1000, 1000⟩ = (⟨1000, 1000⟩, .none) := by decide
theorem test_points_on_a_segment :
    midpoint ⟨1950, 2450⟩ ⟨2250, 2750⟩ = ⟨2100, 2600⟩ ∧
      nearestOnSegment ⟨10, 10⟩ ⟨14, 12⟩ ⟨12, 14⟩ = ⟨13, 12⟩ ∧
      nearestOnSegment ⟨0, 0⟩ ⟨-2, -2⟩ ⟨-1, 0⟩ = ⟨-1, -1⟩ ∧
      nearestOnSegment ⟨0, 0⟩ ⟨7, 3⟩ ⟨-5, 1⟩ = ⟨0, 0⟩ ∧
      nearestOnSegment ⟨0, 0⟩ ⟨7, 3⟩ ⟨9, 4⟩ = ⟨7, 3⟩ := by decide
theorem test_radius :
    circleRadius ⟨1700, 2100⟩ ⟨2030, 2510⟩ = 526 ∧ circleRadius ⟨0, 0⟩ ⟨3, 5⟩ = 6 := by decide +kernel
theorem test_chord_vertices :
    [0, 1, 2, 4, 5, 8, 12].map (chordVertex ⟨1700, 2100⟩ 526 16) =
      [⟨2226, 2100⟩, ⟨2186, 2301⟩, ⟨2072, 2472⟩, ⟨1700, 2626⟩, ⟨1499, 2586⟩, ⟨1174, 2100⟩, ⟨1700, 1574⟩] := by
  decide +kernel

/-! ## The worked decodings of chapter 3 (section 3.6) -/

/-- The windows of section 3.6. -/
def menuSettings : Settings :=
  { figSettings with
    windowA := ⟨1, 14000, 200, 120, 100, 16, 10⟩
    windowB := ⟨2, 15500, 0, 500, 500, 2, 3⟩ }

theorem test_decoding_window_a :
    decodeWindow menuSettings ⟨14500, 650⟩ = ⟨.menu, some (.a, 68)⟩ ∧
      decodeWindow menuSettings ⟨15600, 700⟩ = ⟨.menu, some (.a, 93)⟩ ∧
      decodeWindow menuSettings ⟨15919, 1199⟩ = ⟨.menu, some (.a, 159)⟩ := by decide
theorem test_decoding_window_b :
    decodeWindow menuSettings ⟨15920, 700⟩ = ⟨.noSnap, some (.b, 2)⟩ ∧
      decodeWindow menuSettings ⟨16000, 700⟩ = ⟨.noSnap, some (.b, 3)⟩ ∧
      decodeWindow menuSettings ⟨15600, 100⟩ = ⟨.noSnap, some (.b, 0)⟩ ∧
      decodeWindow menuSettings ⟨16000, 1600⟩ = ⟨.normal, none⟩ := by decide

/-! ## The worked examples of chapters 4 and 6 -/

/-- A POINT cell of an op with EO set: op, tag, point. -/
def pointCell (op : Nat) (tag : Half) (x y : Int) : Cell :=
  ⟨0, BitVec.ofNat 32 (2 ^ 31 + op * 2 ^ 24), tag.setWidth 32, .ofInt 32 x, .ofInt 32 y, 0, 0, 0xFFFF⟩

/-- An INSERT cell of a SEGMENT with EO set. -/
def segmentCell (a b : Point) : Cell :=
  ⟨0, 0x81000001, 0, .ofInt 32 a.x, .ofInt 32 a.y, .ofInt 32 b.x, .ofInt 32 b.y, 0xFFFF⟩

/-- A DELETE cell of a handle with EO set. -/
def deleteCell (handle : Word) : Cell := ⟨0, 0x82000000, 0, 0, 0, 0, 0, handle⟩

/-- The table with one target put in a slot and entered by a placement. -/
def put (n : SlotNo) (shape : Shape) (p : Placement) (t : Table) : Table := t.take n ⟨shape, .application, 0, p⟩

/-- The targets of section 1.11.3: the SEGMENT of slot 7 and the POINT of slot 12, both in bin 136. -/
def figTable : Table :=
  put 12 (.point ⟨2030, 2510⟩) (.bins [136]) (put 7 (.segment ⟨1950, 2450⟩ ⟨2250, 2750⟩) (.bins [136]) Table.reset)

theorem test_placement :
    Table.reset.place (Shape.point ⟨2030, 2510⟩).box = some (.bins [136]) ∧
      Table.reset.place (Shape.segment ⟨0, 0⟩ ⟨10000, 100⟩).box = some (.bins [136, 137, 138]) ∧
      Table.reset.place (Shape.circle ⟨1700, 2100⟩ 3000).box = some .wide ∧
      Table.reset.place (Shape.segment ⟨-40000, 0⟩ ⟨100, 0⟩).box = some .wide := by decide +kernel

theorem test_insert :
    let o := Table.reset.applyOp (pointCell 1 0x0300 2030 2510)
    o.result = .ok ∧ o.handleWord = some 0 ∧ o.table.bins[136] = [0] ∧ o.table.freeRefs = 2047 ∧
      o.table.generation = 1 := by decide +kernel

theorem test_insert_out_of_range :
    let o := Table.reset.applyOp (segmentCell ⟨0, 0⟩ ⟨9000000, 0⟩)
    o.result = .outOfRange ∧ o.handleWord = some 0xFFFF ∧ o.table.generation = 0 := by decide +kernel

theorem test_delete :
    let o := figTable.applyOp (deleteCell 7)
    o.result = .ok ∧ o.table.bins[136] = [12] ∧ o.table.freeRefs = 2047 ∧ o.table.slots[7] = ⟨1, none⟩ ∧
      (o.table.applyOp (deleteCell 7)).result = .staleHandle ∧ o.table.lowestFree = some 0 := by decide +kernel

theorem test_gather_meets_the_bin : figTable.gather (squareBox ⟨2000, 2500⟩ 80) = [7, 12] := by decide +kernel

/-- Three learned points at the second to last place of section 4.9.2: slots 5, 6 and 7, oldest first 5, 7, 6. -/
def learnedTable : Table :=
  let point := fun (n : SlotNo) (p : Point) (t : Table) => t.take n ⟨.point p, .learned, 0xFF00, .bins [136]⟩
  let apps := fun (n : SlotNo) (t : Table) => put n (.point ⟨0, 0⟩) (.bins [136]) t
  { point 7 ⟨300, 300⟩ (point 6 ⟨200, 200⟩ (point 5 ⟨100, 100⟩ (apps 4 (apps 3 (apps 2 (apps 1 (apps 0
    Table.reset))))))) with
    learned := [5, 7, 6], generation := 43 }

theorem test_learning_makes_room :
    let o := learnedTable.learn 3 0xFF00 ⟨400, 400⟩
    o.table.learned = [7, 6, 5] ∧ o.handle = some ⟨5, 1⟩ ∧ o.table.generation = 44 ∧ o.skipped = false := by
  decide +kernel

theorem test_learning_refreshes :
    let o := learnedTable.learn 3 0xFF00 ⟨100, 100⟩
    o.table.learned = [7, 6, 5] ∧ o.handle = some ⟨5, 0⟩ ∧ o.table.generation = 43 := by decide +kernel

/-- The inputs of the resolutions of section 6.10.1. -/
def figInputs (c : Point) (capture : Option FeatureRef) : ResolutionInputs :=
  ⟨c, .normal, { figSettings with tool := 1, constraint := 2 }, 2560, some ⟨1000, 1000⟩, capture⟩

theorem test_resolution_best :
    resolve (figInputs ⟨2000, 2500⟩ none) figTable =
      ⟨⟨2030, 2510⟩, .node, some ⟨12, 0⟩, 0, false, false⟩ := by decide +kernel

theorem test_resolution_capture_held :
    resolve (figInputs ⟨1960, 2440⟩ (some ⟨⟨12, 0⟩, .node, 0⟩)) figTable =
      ⟨⟨2030, 2510⟩, .node, some ⟨12, 0⟩, 0, true, false⟩ := by decide +kernel

theorem test_resolution_capture_released :
    resolve (figInputs ⟨1900, 2400⟩ (some ⟨⟨12, 0⟩, .node, 0⟩)) figTable =
      ⟨⟨1950, 2450⟩, .endPoint, some ⟨7, 0⟩, 0, false, false⟩ := by decide +kernel

theorem test_resolution_priority :
    resolve (figInputs ⟨2200, 2700⟩ (some ⟨⟨7, 0⟩, .mid, 0⟩)) figTable =
      ⟨⟨2250, 2750⟩, .endPoint, some ⟨7, 0⟩, 1, false, false⟩ := by decide +kernel

theorem test_resolution_constrained :
    resolve (figInputs ⟨1880, 2380⟩ (some ⟨⟨7, 0⟩, .endPoint, 0⟩))
      (figTable.applyOp (deleteCell 7)).table =
      ⟨⟨2130, 2130⟩, .none, none, 0, false, true⟩ := by decide +kernel

/-! ## One step of each command -/

/-- The state after a command; every command completes. -/
def after (c : Instr) (s : State) : State :=
  match exec c s with
  | .next t => t
  | .fault _ => s
  | .refused _ => s

theorem exec_after (c : Instr) (s : State) : exec c s = .next (after c s) := by cases c <;> rfl

/-- The state after power-on under the settings, view and targets of the worked figures. -/
def fig : State :=
  { State.reset with
    active := figSettings, staged := figSettings, table := figTable, builder := { Builder.reset with view := figView } }

/-- The engine with a state of the link receiver. -/
def linked (l : Link) : State := { fig with link := l }

/-- A link receiver with the condition IN at the position of the worked figures, and an error counter. -/
def figLink (errors : BitVec 8) : Link :=
  { Link.reset with
    errors := errors, presence := Vector.replicate 8 (.present 250000), condition := .inside, f := ⟨2600, 1800⟩
    fValid := true }

/-- Six bytes of an in-proximity frame of device 0 with R = (2602, 1799) and the given buttons; byte 6 is 91 plus the
buttons' code. -/
def figBytes (buttons : Byte) : List Byte := [0x88, buttons, 20, 42, 14, 7]

/-- The link receiver with those bytes held. -/
def figBody (buttons : Byte) (l : Link) : Link := { l with assembler := .body (figBytes buttons) 4000 }

theorem test_powerOn :
    let t := after .powerOn (linked (figLink 90))
    t.link.errors = 0 ∧ t.active.gainX = 16384 ∧ (t.builder.banks[0]).state = .shown ∧ t.table.k = 12 := by
  decide +kernel

theorem test_byteArrival_frame_error :
    let t := after (.byteArrival 0 true 0x81) (linked (figLink 90))
    t.link.errors = 98 ∧ t.link.state = .tracking ∧ t.appNotices.raised = 0x080 := by decide +kernel

theorem test_byteArrival_filter :
    let t := after (.byteArrival 100 true 91) (linked (figBody 0 (figLink 0)))
    t.link.f = ⟨2601, 1800⟩ ∧ t.link.report = 1 ∧ t.builder.rebuild = true ∧ t.link.assembler = .hunt := by
  decide +kernel

theorem test_gapExpiry :
    let t := after (.gapExpiry 4000) (linked (figBody 0 (figLink 122)))
    t.link.errors = 130 ∧ t.link.state = .degraded ∧ t.appNotices.raised = 0x100 := by decide +kernel

theorem test_presenceExpiry :
    let t := after (.presenceExpiry 250000 0) (linked (figLink 0))
    t.link.presence[0] = .absent ∧ t.link.condition = .none ∧ t.appNotices.raised = 0x200 := by decide +kernel

theorem test_engineReset :
    let t := after .engineReset { fig with resolver := ⟨some ⟨⟨12, 0⟩, .node, 0⟩, false, none⟩ }
    t.engine = .run ∧ t.resolver.capture = none ∧ t.appNotices.raised = 0x2000 ∧ t.builder.rebuild = true ∧
      t.table.freeRefs = 2046 := by decide +kernel

theorem test_linkRestart :
    let t := after .linkRestart (linked (figBody 0 (figLink 250)))
    t.link.errors = 0 ∧ t.link.assembler = .hunt ∧ t.appNotices.raised = 0x100 := by decide +kernel

theorem test_apply : (after .apply fig).applyPending = true := by decide +kernel

/-- The list of section 5.7.1 in flight: serial 3, head 0x12000. -/
def listAt (cell applied : Word) (stage : Stage) : InFlight := ⟨⟨0x00012000, 3⟩, applied, cell, stage⟩

/-- The engine with a list in flight. -/
def withList (f : InFlight) (s : State) : State :=
  { s with update := { s.update with lastSerial := 3, inFlight := some f } }

theorem test_updateTeardown :
    (after .updateTeardown (withList (listAt 0x12000 0 .fetching) fig)).update.teardown = true ∧
      (after .updateTeardown fig).update.teardown = false := by decide +kernel

theorem test_updateAck :
    (after .updateAck { fig with update := { fig.update with done := 1 } }).update.done = 0 ∧
      (after .updateAck fig).update.done = 0 := by decide +kernel

/-- A record with a sequence number. -/
def record (n : Half) : CommitRecord :=
  ⟨n, .place, .rect, 1, some ⟨2030, 2510⟩, .node, 0, some ⟨12, 0⟩, none, ⟨2600, 1800⟩, 300, none, false, false⟩

theorem test_commitPop :
    (after (.commitPop .location) { fig with tool := { fig.tool with log := [record 28, record 29] } }).tool.log =
      [record 29] := by decide +kernel

theorem test_submitHi :
    (after (.submitHi 1) { fig with update := { fig.update with submitLo := 0x2000, lastSerial := 2 } }).update.inFlight =
      some (listAt 0x12000 0 .fetching) := by decide +kernel

theorem test_fetchCompletion_table_op :
    let c := pointCell 1 0x0300 2030 2510
    let t := after (.fetchCompletion (.cell c)) (withList (listAt 0x12000 0 .fetching) fig)
    t.update.inFlight = some (listAt 0x12000 1 (.granted c)) ∧ t.arbiter.holder = some .update := by decide +kernel

theorem test_fetchCompletion_unowned :
    let t := after (.fetchCompletion (.cell ⟨0, 0x02000000, 0, 0, 0, 0, 0, 3⟩))
      (withList (listAt 0x12060 3 .fetching) fig)
    t.update.record = ⟨⟨0x12000, 3⟩, .stoppedUnowned, 3, 0x12060⟩ ∧ t.update.done = 1 ∧ t.update.inFlight = none := by
  decide +kernel

/-- The engine under a grant. -/
def under (r : Requester) (s : State) : State := { s with arbiter := { s.arbiter with holder := some r } }

theorem test_tableGrant_begins_the_op :
    let c := pointCell 1 0x0300 2030 2510
    let t := after .tableGrant (under .update (withList (listAt 0x12000 1 (.granted c)) fig))
    t.update.inFlight = some (listAt 0x12000 1 (.applying c)) ∧ t.arbiter.holder = some .update := by decide +kernel

theorem test_engineReset_releases_a_granted_cell :
    let s := under .update (withList (listAt 0x12000 1 (.granted (pointCell 1 0x0300 2030 2510))) fig)
    let t := after .engineReset { s with arbiter := { s.arbiter with turn := .update } }
    t.engine = .run ∧ t.update.inFlight = none ∧ t.arbiter.holder = none ∧ t.arbiter.turn = .update ∧
      t.table.generation = 0 := by decide +kernel

theorem test_cellApplication :
    let c := segmentCell ⟨0, 0⟩ ⟨9000000, 0⟩
    let t := after .cellApplication (under .update (withList (listAt 0x12020 2 (.applying c)) fig))
    t.update.inFlight = some (listAt 0x12020 2 (.writingBack c (some 0xFFFF) 0x01060001)) ∧
      t.arbiter.holder = none ∧ t.table.generation = 0 := by decide +kernel

/-- A cell whose link is the next cell of the list of section 5.7.1. -/
def linkedCell (link : Word) : Cell := { pointCell 1 0x0300 2030 2510 with link := link }

theorem test_writeBackCompletion :
    let t := after (.writeBackCompletion false false)
      (withList (listAt 0x12000 1 (.writingBack (linkedCell 0x12020) (some 9) 0x01000000)) fig)
    t.update.inFlight = some (listAt 0x12020 1 .fetching) ∧
      t.masterWrites = [(0x1201C, 9), (0x12004, 0x01000000)] := by decide +kernel

theorem test_markingCompletion :
    let t := after (.markingCompletion false) (withList (listAt 0x20660 51 .marking) fig)
    t.update.record.status = .tornDown ∧ t.update.record.lastCell = 0x20660 ∧
      t.masterWrites = [(0x20664, 0x40090000)] := by decide +kernel

/-- The press of section 7.7.1 with a set of buttons. -/
def entry (buttons : BitVec 4) : QueueEntry := ⟨buttons, ⟨2600, 1800⟩, ⟨2600, 1800⟩, 300⟩

/-- The engine with an entry in the button event queue. -/
def queued (buttons : BitVec 4) (s : State) : State := { s with link := { s.link with queue := [entry buttons] } }

/-- The engine with a commit of that entry's button under its grant. -/
def committing (buttons : BitVec 4) (b : ButtonName) (resolving : Bool) (s : State) : State :=
  under .commit
    { queued buttons s with tool := { s.tool with commit := some ⟨entry buttons, b, true, resolving⟩ } }

theorem test_commitStart :
    let t := after .commitStart (queued 3 fig)
    t.tool.commit = some ⟨entry 3, .place, true, false⟩ ∧ t.arbiter.holder = some .commit ∧
      t.link.queue = [entry 3] := by decide +kernel

/-- A PLACE under its grant that finds the log full. -/
def fullLog : State :=
  committing 1 .place false { fig with tool := { fig.tool with log := List.replicate 16 (record 28) } }

theorem test_tableGrant_log_full :
    let t := after .tableGrant fullLog
    t.appNotices.raised = 0x010 ∧ t.tool.commit = none ∧ t.link.queue = [] ∧ t.arbiter.holder = none := by
  decide +kernel

theorem test_tableGrant_resolves :
    let t := after .tableGrant (committing 1 .place false fig)
    (t.resolver.resolution.map ResolutionInputs.c) = some ⟨2000, 2500⟩ ∧
      (t.tool.commit.map CommitInHand.resolving) = some true := by decide +kernel

/-- The engine of section 7.7.1 at the end of the first PLACE's resolution, with RECT. -/
def resolving (b : ButtonName) : State :=
  let settings := { figSettings with tool := 3 }
  { committing 1 b true { fig with active := settings, tool := { fig.tool with sequence := 41 } } with
    resolver := ⟨none, false, some ⟨⟨2000, 2500⟩, .normal, settings, 2560, none, none⟩⟩ }

theorem test_resolutionEnd :
    let t := after .resolutionEnd (resolving .place)
    t.tool.context = ⟨1, some ⟨2030, 2510⟩, some ⟨2030, 2510⟩⟩ ∧ t.table.generation = 1 ∧ t.table.learned = [0] ∧
      t.tool.log = [{ record 42 with learned := some ⟨0, 0⟩ }] ∧ t.arbiter.holder = none := by decide +kernel

/-- The engine with the flag set, build 7 made, and the condition IN (section 8.9.1). -/
def due : State :=
  { linked { figLink 0 with report := 412 } with
    active := { figSettings with showAperture := 1, tool := 1 }
    tool := { ToolUnit.reset with context := ⟨1, some ⟨1000, 1000⟩, some ⟨1000, 1000⟩⟩ }
    builder := { Builder.reset with view := figView, rebuild := true, counter := 7, viewGen := 3 } }

theorem test_buildStart :
    let t := after .buildStart due
    t.builder.build.map Build.bank = some 1 ∧ t.builder.build.map Build.number = some 8 ∧
      t.builder.build.map Build.sort = some (.cursor ⟨2000, 2500⟩ .normal) ∧ t.builder.rebuild = false ∧
      t.arbiter.holder = some .build := by decide +kernel

/-- The build of section 8.9.1 with a phase. -/
def figBuild (phase : BuildPhase) : Build := ⟨1, 8, takeSnapshot due, .cursor ⟨2000, 2500⟩ .normal, phase⟩

/-- The result of its resolution. -/
def figResult : Resolution := ⟨⟨2030, 2510⟩, .node, some ⟨12, 0⟩, 0, false, false⟩

/-- The engine with a build in flight. -/
def withBuild (b : Build) (s : State) : State :=
  { s with builder := { s.builder with
    rebuild := false, build := some b, banks := s.builder.banks.set 1 ⟨.building, []⟩ } }

/-- The engine with that build composed. -/
def composed : State := withBuild (figBuild (.composing (some figResult) 51)) due

theorem test_buildCompletion :
    (after .buildCompletion composed).builder.banks[1] = ⟨.ready,
      [.header ⟨8, 412, 3, 51, false, .tracking, none, false, false⟩, .cursorInfo ⟨2030, 2510⟩ .node,
        .move ⟨-2000, 2500⟩ .solid .cursor, .draw ⟨38960, 2500⟩ .solid .cursor,
        .move ⟨2000, 500⟩ .solid .cursor, .draw ⟨2000, 41460⟩ .solid .cursor,
        .move ⟨1920, 2420⟩ .solid .aperture, .draw ⟨2080, 2420⟩ .solid .aperture,
        .draw ⟨2080, 2580⟩ .solid .aperture, .draw ⟨1920, 2580⟩ .solid .aperture,
        .draw ⟨1920, 2420⟩ .solid .aperture,
        .move ⟨1990, 2470⟩ .bright .marker, .draw ⟨2070, 2470⟩ .bright .marker,
        .draw ⟨2070, 2550⟩ .bright .marker, .draw ⟨1990, 2550⟩ .bright .marker,
        .draw ⟨1990, 2470⟩ .bright .marker,
        .move ⟨1000, 1000⟩ .solid .rubber, .draw ⟨2030, 2510⟩ .solid .rubber, .endMark]⟩ := by decide +kernel

theorem test_buildCompletion_counts :
    let t := after .buildCompletion composed
    t.builder.counter = 8 ∧ t.builder.lastDrawing = some ⟨2030, 2510⟩ ∧ t.dispNotices.raised = 1 ∧
      t.builder.build = none := by decide +kernel

theorem test_frameStart :
    let t := after (.frameStart 0) (after .buildCompletion composed)
    (t.builder.banks[1]).state = .shown ∧ (t.builder.banks[0]).state = .free ∧ t.builder.streamPtr = 0 := by
  decide +kernel

theorem test_stream :
    (after .stream fig).ports.dispData = 0 ∧ (after .stream fig).builder.streamPtr = 1 ∧
      (after .stream { fig with builder := { fig.builder with streamPtr := 9 } }).ports.dispData = 0x40000000 := by
  decide +kernel

theorem test_streamRewind :
    (after (.streamRewind 1) { fig with builder := { fig.builder with streamPtr := 5 } }).builder.streamPtr = 0 := by
  decide +kernel

theorem test_stagedViewWrite :
    let t := after (.stagedViewWrite .scale 2560) State.reset
    t.builder.staged.scale = 2560 ∧ t.builder.stagedWritten = true ∧ t.builder.view.scale = 256 := by decide +kernel

/-- Pick slot 0 with the inputs of section 9.6.1: aperture, feature enables and control state. -/
def figPick (aperture : Word) (enables : BitVec 6) (control : PickControl) : PickSlot :=
  { PickSlot.reset with x := 2000, y := 2500, aperture := aperture, choice := 4, enables := enables, control := control }

theorem test_pickGo :
    let t := after (.pickGo .pick0) { fig with pick0 := { figPick 40 3 .idle with found := true } }
    t.pick0.control = .searching ∧ t.pick0.found = false ∧ t.arbiter.holder = some .pick0 := by decide +kernel

theorem test_pickBlockedWrite :
    let t := after (.pickBlockedWrite .pick0 .aperture 60) { fig with pick0 := figPick 40 3 .waiting }
    t.pick0.blocked = true ∧ t.pick0.aperture = 40 := by decide +kernel

theorem test_pickCompletion_node :
    let t := after .pickCompletion (under .pick0 { fig with pick0 := figPick 40 3 .searching })
    t.pick0.found = true ∧ t.pick0.handle = some ⟨12, 0⟩ ∧ t.pick0.feature = .node ∧ t.pick0.point = ⟨2030, 2510⟩ ∧
      t.pick0.control = .idle ∧ t.appNotices.raised = 0x400 := by decide +kernel

theorem test_pickCompletion_near :
    let t := after .pickCompletion (under .pick0 { fig with pick0 := figPick 20 0x21 .searching })
    t.pick0.handle = some ⟨7, 0⟩ ∧ t.pick0.feature = .near ∧ t.pick0.point = ⟨2000, 2500⟩ := by decide +kernel

theorem test_noticeRaw :
    (after (.noticeRaw .app 0x080) { fig with appNotices := ⟨0x180, 0⟩ }).appNotices.raised = 0x100 := by
  decide +kernel

theorem test_enableSet :
    let t := after (.enableSet .disp 1) { fig with dispNotices := ⟨1, 2⟩ }
    t.dispNotices.enabled = 3 ∧ dispLine t = true := by decide +kernel

theorem test_enableClear :
    let t := after (.enableClear .disp 1) { fig with dispNotices := ⟨1, 3⟩ }
    t.dispNotices.enabled = 2 ∧ dispLine t = false := by decide +kernel

theorem test_dataRead :
    let t := after (.dataRead .app .data)
      { fig with staged := { figSettings with gridX := 0x12345678 }, ports := { fig.ports with appIndex := 0x098 } }
    t.ports.appData = 0x5678 ∧ t.ports.appIndex = 0x099 ∧ t.ports.latch = some ⟨0x099, 0x1234⟩ ∧
      (after (.dataRead .app .data) { t with staged := figSettings }).ports.appData = 0x1234 := by decide +kernel

theorem test_dataRead_arbiter :
    (after (.dataRead .app .data)
      { fig with
        arbiter := ⟨some .update, ⟨true, false, false, false, true⟩, .update⟩
        ports := { fig.ports with appIndex := 0x039 } }).ports.appData = 0x1113 := by decide +kernel

theorem test_registerWrite_command :
    (after (.registerWrite .app .data 3) fig).applyPending = true ∧
      (after (.registerWrite .app .data 7) fig).applyPending = false := by decide +kernel

theorem test_registerWrite_setting :
    let t := after (.registerWrite .app .data 12) { fig with ports := { fig.ports with appIndex := 0x08D } }
    t.staged.aperture = 12 ∧ t.active.aperture = 8 ∧ t.ports.appIndex = 0x08E := by decide +kernel

/-! ## Witnesses: states that meet the laws -/

/-- A pick search under its grant with a list in flight, whose fetch is to be answered next. -/
def searching : State :=
  { under .pick0 (withList (listAt 0x12000 0 .fetching) { fig with pick0 := figPick 40 3 .searching }) with
    pending := [.fetchCompletion .busError] }

theorem searching_grantLaw : searching.GrantLaw where
  free := by intro h; exact absurd h (by decide)
  owned := by intro r; cases r <;> rfl
  single := by intro r _; cases r <;> rfl
  begun := by intro r h; cases r <;> first | rfl | exact absurd h (by decide)
  entered := by intro r _ _ h; cases r <;> first | rfl | exact absurd h (by decide)
  resolution := rfl
  emptying := by decide
  buttons := by intro c h; cases h
  drag := by intro c h; cases h

theorem searching_updateLaw : searching.UpdateLaw where
  waiting := by decide
  teardown := by decide
  cell := by intro f h; cases h; decide
  resetting := by decide
  stopped := by intro h; exact absurd h (by decide)
  finishing := by intro h; exact absurd h (by decide)
  cleared := by intro h; exact absurd h (by decide)

/-- The same in RESETTING, with the fetch outstanding. -/
def resettingFetch : State := { searching with engine := .resetting }

theorem resettingFetch_grantLaw : resettingFetch.GrantLaw := by
  have h := searching_grantLaw
  exact ⟨h.free, h.owned, h.single, h.begun, h.entered, h.resolution, h.emptying, h.buttons, h.drag⟩

theorem resettingFetch_updateLaw : resettingFetch.UpdateLaw where
  waiting := by decide
  teardown := by decide
  cell := by intro f h; cases h; decide
  resetting := by decide
  stopped := fun _ => ⟨(by intro c; exact ⟨nofun, nofun⟩), rfl, (by intro c h; cases h)⟩
  finishing := fun _ c h => by cases h
  cleared := fun _ _ => ⟨rfl, rfl, rfl, rfl⟩

/-- A PLACE's resolution in progress at an ENGINE_RESET taken since, with or without a list in flight. -/
def resettingCommit (b : ButtonName) (f : Option InFlight) : State :=
  let s := resolving b
  { s with
    engine := .resetting
    link := { s.link with queue := [] }
    tool := { s.tool with commit := some ⟨entry 1, b, false, true⟩ }
    update := { s.update with inFlight := f }
    resolver := { s.resolver with emptying := true } }

theorem resettingCommit_updateLaw (b : ButtonName) (f : Option InFlight) (hf : ∀ g ∈ f, g = listAt 0x12000 0 .fetching) :
    (resettingCommit b f).UpdateLaw where
  waiting := nofun
  teardown := nofun
  cell := by
    intro g h
    cases hf g h
    decide
  resetting := fun _ => .inr rfl
  stopped := by
    refine fun _ => ⟨fun c => ?_, rfl, fun c h => by cases h; rfl⟩
    cases f with
    | none => exact ⟨nofun, nofun⟩
    | some g => cases hf g rfl; exact ⟨nofun, nofun⟩
  finishing := fun _ c h => by cases h; exact ⟨rfl, rfl⟩
  cleared := fun _ h => by cases h

theorem test_resolutionEnd_while_resetting :
    let t := after .resolutionEnd (resettingCommit .place none)
    t.engine = .run ∧ t.tool.log = [] ∧ t.tool.sequence = 42 ∧ t.tool.context = ⟨0, none, none⟩ ∧
      t.table.learned = [0] ∧ t.resolver.capture = none ∧ t.appNotices.raised = 0x2000 ∧ t.arbiter.holder = none := by
  decide +kernel

/-- A PLACE's resolution in progress: the law of grants holds of it. -/
theorem resolving_grantLaw : (resolving .place).GrantLaw where
  free := by intro h; exact absurd h (by decide)
  owned := by intro r; cases r <;> rfl
  single := by intro r _; cases r <;> rfl
  begun := by intro r h; cases r <;> first | rfl | exact absurd h (by decide)
  entered := by intro r h1 _ h; cases r <;> first | rfl | exact absurd rfl h1 | exact absurd h (by decide)
  resolution := rfl
  emptying := by decide
  buttons := by intro c h _; cases h; exact .inl rfl
  drag := by intro c h; cases h

/-- A table with one POINT at (0, 0) in slot 3, in bin 136. -/
def oneTarget (o : Origin) : Table :=
  { Table.reset with
    slots := Table.reset.slots.set 3 ⟨0, some ⟨.point ⟨0, 0⟩, o, 7, .bins [136]⟩⟩
    bins := Table.reset.bins.set 136 [3]
    freeRefs := 2047
    learned := if o = .learned then [3] else [] }

theorem oneTarget_target (o : Origin) (n : SlotNo) :
    (oneTarget o).target n = if n = 3 then some ⟨.point ⟨0, 0⟩, o, 7, .bins [136]⟩ else none := by
  simp only [Table.target, oneTarget, Table.reset, Fin.getElem_fin, Vector.getElem_set, Vector.getElem_replicate]
  by_cases h : n = 3
  · subst h; rfl
  · have : ¬ 3 = n.val := fun e => h (Fin.ext e.symm)
    simp [h, this]

theorem oneTarget_bins (o : Origin) (b : BinNo) : (oneTarget o).bins[b] = if b = 136 then [3] else [] := by
  simp only [oneTarget, Table.reset, Fin.getElem_fin, Vector.getElem_set, Vector.getElem_replicate]
  by_cases h : b = 136
  · subst h; rfl
  · have : ¬ 136 = b.val := fun e => h (Fin.ext e.symm)
    simp [h, this]

theorem oneTarget_law (o : Origin) (cap : Nat) (h : o = .learned → 1 ≤ cap) : (oneTarget o).Law cap where
  bins := by
    intro b n
    simp only [Table.binHas, oneTarget_bins, oneTarget_target]
    by_cases hb : b = 136 <;> by_cases hn : n = 3 <;> simp [hb, hn]
  wide := by
    intro n
    rw [oneTarget_target]
    by_cases hn : n = 3 <;> simp [hn, oneTarget, Table.reset]
  placed := by
    intro n g l ht hp
    rw [oneTarget_target] at ht
    by_cases hn : n = 3
    · simp only [hn, if_true, Option.some.injEq] at ht
      subst ht
      simp only [Placement.bins.injEq] at hp
      subst hp
      refine ⟨by cases o <;> decide +kernel, by cases o <;> decide +kernel, by decide⟩
    · simp [hn] at ht
  refs := by cases o <;> decide +kernel
  wideCap := by cases o <;> decide
  binsSorted := by
    intro b
    rw [oneTarget_bins]
    split <;> simp
  wideSorted := by cases o <;> exact .nil
  learned := by
    intro n
    rw [oneTarget_target]
    by_cases hn : n = 3 <;> cases o <;> simp [hn, oneTarget, Table.reset]
  learnedOnce := by cases o <;> decide
  learnedApart := by
    intro m n hm hn _
    cases o
    · simp [oneTarget] at hm
    · simp [oneTarget] at hm hn
      rw [hm, hn]
  learnedPoint := by
    intro n g ht _
    rw [oneTarget_target] at ht
    by_cases hn : n = 3
    · simp only [hn, if_true, Option.some.injEq] at ht
      exact ⟨⟨0, 0⟩, ht ▸ rfl⟩
    · simp [hn] at ht
  learnedCap := by
    cases o
    · exact Nat.zero_le _
    · exact h rfl
  window := by cases o <;> decide

/-- The engine with one learned point. -/
def learnedOne : State := { fig with table := oneTarget .learned, pending := [.tableGrant] }

theorem learnedOne_tableLaw : learnedOne.TableLaw := oneTarget_law .learned 16 (fun _ => by decide)

theorem none_inRange : pointInRange none := nofun

theorem learnedOne_rangeLaw : learnedOne.RangeLaw where
  targets := by
    intro n g h
    rw [show learnedOne.table = oneTarget .learned from rfl, oneTarget_target] at h
    split at h
    · cases h
      exact (by decide : Point.inWorld ⟨0, 0⟩ = true)
    · cases h
  window := by decide
  figure := ⟨none_inRange, none_inRange, none_inRange, fun g h => absurd (show g ∈ ([] : List DragSegment) from h)
    List.not_mem_nil⟩
  view := by decide
  banks := by
    intro i e h
    match i with
    | 0 => rcases List.mem_cons.mp h with rfl | h
           · trivial
           · rcases List.mem_cons.mp h with rfl | h
             · exact (by decide : Point.inWorld ⟨0, 0⟩ = true)
             · cases List.mem_singleton.mp h; trivial
    | 1 => exact absurd (show e ∈ ([] : List Entry) from h) List.not_mem_nil
    | 2 => exact absurd (show e ∈ ([] : List Entry) from h) List.not_mem_nil
  log := fun r h => absurd (show r ∈ ([] : List CommitRecord) from h) List.not_mem_nil
  resolution := fun i h => by cases (show (none : Option ResolutionInputs) = some i from h)
  build := fun b h => by cases (show (none : Option Build) = some b from h)
  drawing := none_inRange
  picks := by intro i; cases i <;> decide

theorem figSettings_legal : figSettings.Legal := by
  constructor
  all_goals first
    | exact ⟨by decide, by decide⟩
    | decide
    | exact ⟨⟨by decide, by decide⟩, ⟨by decide, by decide⟩, ⟨by decide, by decide⟩, ⟨by decide, by decide⟩,
        ⟨by decide, by decide⟩, ⟨by decide, by decide⟩, ⟨by decide, by decide⟩⟩
    | (intro n; unfold inRange; revert n; decide)

theorem figView_legal : figView.Legal := ⟨by decide, by decide, by decide, by decide⟩

/-- The state of section 8.9.1 with its build composed, and the completion to come. -/
def completing : State := { composed with active := figSettings, pending := [.buildCompletion] }

theorem completing_banksLaw : completing.builder.BanksLaw :=
  ⟨by decide, by decide, by decide, by decide⟩

theorem completing_pictureLaw : completing.builder.PictureLaw := by
  intro i h
  match i with
  | 0 => exact ⟨⟨Header.reset, ⟨0, 0⟩, .none, [], rfl, by simp⟩, by decide⟩
  | 1 => exact absurd h (by decide)
  | 2 => exact absurd h (by decide)

theorem completing_snapshotLaw : completing.builder.SnapshotLaw := by
  intro b h
  cases h
  refine ⟨?_, figView_legal, by decide⟩
  constructor
  all_goals first
    | exact ⟨by decide, by decide⟩
    | decide
    | exact ⟨⟨by decide, by decide⟩, ⟨by decide, by decide⟩, ⟨by decide, by decide⟩, ⟨by decide, by decide⟩,
        ⟨by decide, by decide⟩, ⟨by decide, by decide⟩, ⟨by decide, by decide⟩⟩
    | (intro n; unfold inRange; revert n; decide)

theorem due_toolLaw : due.ToolLaw := ⟨by decide, by decide, by decide, by decide, by decide⟩

/-- The engine with a frame in assembly, a record in the log and a byte to come. -/
def assembling : State :=
  { linked { figBody 0 (figLink 0) with queue := [entry 1] } with
    tool := { fig.tool with log := [record 27, record 28], sequence := 28 }, pending := [.byteArrival 100 true 91] }

theorem assembling_laws : assembling.ToolLaw ∧ assembling.LogLaw ∧ assembling.LinkLaw := by
  refine ⟨⟨by decide, by decide, by decide, by decide, by decide⟩, ⟨by decide, by decide, ⟨rfl, rfl, trivial⟩⟩,
    ⟨?_, by decide, by decide, by decide, by decide⟩⟩
  intro l t h
  cases h
  decide

/-! ## Witnesses of the statements about the machine as a whole -/

theorem witness_StepRunsTheFrontCommand : State.reset.pending = [] := rfl

theorem witness_EveryStepKeepsTheGrantLaw : searching.GrantLaw ∧ ∃ t, step searching = .next t :=
  ⟨searching_grantLaw, _, rfl⟩

theorem witness_EveryStepKeepsTheUpdateLaw :
    searching.GrantLaw ∧ searching.UpdateLaw ∧ ∃ t, step searching = .next t :=
  ⟨searching_grantLaw, searching_updateLaw, _, rfl⟩

theorem witness_EveryStepKeepsTheTableLaw :
    (∃ t, step learnedOne = .next t) ∧ learnedOne.TableLaw ∧ learnedOne.RangeLaw :=
  ⟨⟨_, rfl⟩, learnedOne_tableLaw, learnedOne_rangeLaw⟩

theorem witness_EveryStepKeepsToolLogAndLinkLaws :
    (∃ t, step assembling = .next t) ∧ assembling.ToolLaw ∧ assembling.LogLaw ∧ assembling.LinkLaw :=
  ⟨⟨_, rfl⟩, assembling_laws⟩

theorem witness_EveryStepKeepsSettingsViewAndNotices :
    (∃ t, step completing = .next t) ∧ completing.active.Legal ∧ completing.builder.view.Legal ∧
      completing.NoticeLaw :=
  ⟨⟨_, rfl⟩, figSettings_legal, figView_legal, by decide, by decide⟩

theorem witness_EveryStepKeepsTheBanksLaw : completing.builder.BanksLaw ∧ ∃ t, step completing = .next t :=
  ⟨completing_banksLaw, _, rfl⟩

theorem witness_EveryStepKeepsThePictureLaw :
    completing.builder.BanksLaw ∧ completing.builder.PictureLaw ∧ completing.builder.SnapshotLaw ∧
      { completing with tool := assembling.tool }.ToolLaw ∧ completing.active.Legal ∧
      completing.builder.view.Legal ∧ ∃ t, step { completing with tool := assembling.tool } = .next t :=
  ⟨completing_banksLaw, completing_pictureLaw, completing_snapshotLaw,
    ⟨by decide, by decide, by decide, by decide, by decide⟩, figSettings_legal, figView_legal, _, rfl⟩

theorem witness_ShownBankStaysAsItIs :
    Instr.buildCompletion ≠ .powerOn ∧ completing.builder.BanksLaw ∧ (∃ t, exec .buildCompletion completing = .next t) ∧
      (completing.builder.banks[0]).state = .shown ∧
      ((after .buildCompletion completing).builder.banks[1]).state = .ready :=
  ⟨by decide, completing_banksLaw, ⟨_, rfl⟩, rfl, by decide +kernel⟩

theorem witness_BusyPickSlotKeepsItsInputs :
    Instr.pickBlockedWrite .pick0 .aperture 60 ≠ .powerOn ∧ (searching.pick .pick0).control ≠ .idle ∧
      ∃ t, exec (.pickBlockedWrite .pick0 .aperture 60) searching = .next t :=
  ⟨by decide, by decide, _, rfl⟩

/-- The engine with a build due and an apply pending that changes the aperture, and the device with it. -/
def applying : State :=
  { due with applyPending := true, staged := { figSettings with aperture := 12, activeDevice := 1, learnCap := 0 } }

theorem witness_OnlyAnApplyChangesActiveSettings :
    Instr.buildStart ≠ .powerOn ∧ exec .buildStart applying = .next (after .buildStart applying) ∧
      (after .buildStart applying).active ≠ applying.active :=
  ⟨by decide, rfl, by decide +kernel⟩

theorem witness_EveryResetReturnsToRun :
    resettingFetch.GrantLaw ∧ resettingFetch.UpdateLaw ∧ resettingFetch.engine = .resetting :=
  ⟨resettingFetch_grantLaw, resettingFetch_updateLaw, rfl⟩

/-! ## Witnesses of the statements about the tablet line -/

/-- The engine with bytes of a frame held. -/
def holding (held : List Byte) : State := linked { figLink 250 with assembler := .body held 4000 }

theorem witness_SoundBytesAreTakenIntoTheFrame :
    (fig.link.assembler = .hunt ∧ (0x7F : Byte).toNat < 128 ∧ 128 ≤ (0x80 : Byte).toNat ∧ (0x80 : Byte).toNat % 8 = 0 ∧
      128 ≤ (0xF8 : Byte).toNat ∧ (0xF8 : Byte).toNat % 8 = 0) ∧
    ((holding [0x88]).link.assembler = .body [0x88] 4000 ∧ (0x0F : Byte).toNat < 128 ∧ (0x0F : Byte).toNat / 16 = 0) ∧
    ((holding [0x88, 0, 20, 42, 14]).link.assembler = .body [0x88, 0, 20, 42, 14] 4000 ∧ (0x7F : Byte).toNat < 128) := by
  decide

theorem witness_FrameErrorRaisesTheCounter :
    (fig.link.assembler = .hunt ∧ 128 ≤ (0x81 : Byte).toNat ∧ (0x81 : Byte).toNat % 8 ≠ 0) ∧
    ((holding [0x88]).link.assembler = .body [0x88] 4000 ∧ (0x10 : Byte).toNat < 128 ∧ (0x10 : Byte).toNat / 16 ≠ 0) ∧
    ((holding (figBytes 0)).link.assembler = .body (figBytes 0) 4000 ∧ (figBytes 0).length = 6 ∧
      (92 : Byte).toNat < 128 ∧ (92 : Byte).toNat ≠ ((figBytes 0).map BitVec.toNat).sum % 128 ∧ 4000 ≤ 4000 ∧
      3999 < 4000 ∧ 128 ≤ (0x80 : Byte).toNat ∧ (0x80 : Byte).toNat % 8 = 0 ∧ (0xFF : Byte).toNat % 8 ≠ 0) := by
  decide

/-- The engine with those bytes held, an error counter and a run. -/
def ready (buttons : Byte) (errors : BitVec 8) (run : BitVec 7) : State :=
  linked { figBody buttons (figLink errors) with run := run }

theorem ready_goodFrame (errors : BitVec 8) (run : BitVec 7) : GoodFrame (ready 0 errors run) 0x88 0 20 42 14 7 91 :=
  ⟨⟨4000, rfl⟩, by decide, by decide⟩

/-- The same with device 1 active. -/
def otherDevice : State := { ready 0 0 0 with active := { figSettings with activeDevice := 1 } }

theorem witness_UnusedFrameReachesHealthAndPresence :
    (GoodFrame otherDevice 0x88 0 20 42 14 7 91 ∧
      (⟨deviceOf 0x88, Nat.mod_lt _ (by decide)⟩ : Fin 8) ≠ otherDevice.active.device) ∧
    (GoodFrame (ready 0 255 62) 0x88 0 20 42 14 7 91 ∧
      linkStateOf (afterGood (ready 0 255 62).link).1 = .offline) :=
  ⟨⟨⟨⟨4000, rfl⟩, by decide, by decide⟩, by decide⟩, ready_goodFrame 255 62, by decide⟩

/-- The frame of six bytes out of proximity. -/
def leaving : State := linked { figLink 0 with assembler := .body [0x80, 0, 20, 42, 14, 7] 4000 }

theorem witness_UsedFrameMovesTheCursor :
    (GoodFrame (ready 0 255 63) 0x88 0 20 42 14 7 91 ∧ deviceOf 0x88 = (ready 0 255 63).active.device.val ∧
      linkStateOf (afterGood (ready 0 255 63).link).1 ≠ .offline ∧ inProximity 0x88 ∧
      (ready 0 255 63).link.condition = .inside) ∧
    (GoodFrame leaving 0x80 0 20 42 14 7 83 ∧ deviceOf 0x80 = leaving.active.device.val ∧
      linkStateOf (afterGood leaving.link).1 ≠ .offline ∧ ¬ inProximity 0x80) :=
  ⟨⟨ready_goodFrame 255 63, by decide, by decide, rfl, by decide⟩, ⟨⟨4000, rfl⟩, by decide, by decide⟩, by decide,
    by decide, by unfold inProximity; decide⟩

/-- A frame that shows button 0 pressed and, 5 ms after its last accepted transition, button 1 released, with
entries waiting. -/
def pressing (entries : Nat) : State :=
  let l := figBody 1 (figLink 0)
  linked { l with buttons := l.buttons.set 1 ⟨true, some 0⟩, queue := List.replicate entries (entry 4) }

theorem witness_AcceptedPressesMakeOneEntry :
    (∀ n ∈ [3, 4], GoodFrame (pressing n) 0x88 1 20 42 14 7 92 ∧
      exec (.byteArrival 5000 true 92) (pressing n) = .next (after (.byteArrival 5000 true 92) (pressing n))) ∧
    deviceOf 0x88 = (pressing 3).active.device.val ∧ linkStateOf (afterGood (pressing 3).link).1 ≠ .offline ∧
    inProximity 0x88 ∧ (pressing 3).link.queue.length < 4 ∧ 4 ≤ (pressing 4).link.queue.length ∧
    (∀ last, ((pressing 3).link.buttons[1]).last = some last →
      last + (pressing 3).active.debounce.toNat * 1000 ≤ 5000) ∧
    pressesBetween (pressing 3).link.buttons (after (.byteArrival 5000 true 92) (pressing 3)).link.buttons = 1 := by
  refine ⟨fun n _ => ⟨⟨⟨4000, rfl⟩, by decide, by decide⟩, rfl⟩, by decide, by decide, rfl, by decide, by decide, ?_,
    by decide +kernel⟩
  intro last h
  cases h
  decide

theorem witness_PresenceExpiryMakesTheDeviceAbsent :
    (linked (figLink 0)).link.presence[(0 : Fin 8)] = .present 250000 ∧
      (linked (figLink 0)).link.presence[(7 : Fin 8)] = .present 250000 ∧ (249999 < 250000) ∧ 250000 ≤ 250000 ∧
      (0 : Fin 8) = (linked (figLink 0)).active.device ∧ (7 : Fin 8) ≠ (linked (figLink 0)).active.device := by
  decide

theorem witness_CommandsActByTheirCode :
    fig.ports.appIndex = 0 ∧ ((List.range 7).map fun n => (BitVec.ofNat 32 n).toNat % 65536) = [0, 1, 2, 3, 4, 5, 6] ∧
      6 < (7 : Word).toNat % 65536 ∧ 6 < (0xFFFF : Word).toNat % 65536 := by
  decide

/-! ## Witnesses of the statements about commands, settings and ports -/

/-- The searching engine without its list. -/
def searchingAlone : State := under .pick0 { fig with pick0 := figPick 40 3 .searching }

theorem searchingAlone_grantLaw : searchingAlone.GrantLaw where
  free := by intro h; exact absurd h (by decide)
  owned := by intro r; cases r <;> rfl
  single := by intro r _; cases r <;> rfl
  begun := by intro r h; cases r <;> first | rfl | exact absurd h (by decide)
  entered := by intro r _ _ h; cases r <;> first | rfl | exact absurd h (by decide)
  resolution := rfl
  emptying := by decide
  buttons := by intro c h; cases h
  drag := by intro c h; cases h

/-- An INSERT cell under the UPDATE grant, in a stage of APPLYING. -/
def cellUnderGrant (stage : Cell → Stage) : State :=
  under .update (withList (listAt 0x12000 1 (stage (pointCell 1 0 0 0))) fig)

theorem cellUnderGrant_grantLaw (stage : Cell → Stage) (h : stage = Stage.granted ∨ stage = Stage.applying) :
    (cellUnderGrant stage).GrantLaw where
  free := by intro h; exact absurd h (by cases h)
  owned := by intro r; rcases h with rfl | rfl <;> cases r <;> rfl
  single := by intro r _; cases r <;> rfl
  begun := by intro r h'; rcases h with rfl | rfl <;> cases r <;> first | rfl | cases h'
  entered := by intro r _ _ h'; rcases h with rfl | rfl <;> cases r <;> first | rfl | cases h'
  resolution := rfl
  emptying := nofun
  buttons := nofun
  drag := by intro c h'; rcases h with rfl | rfl <;> cases h'

theorem witness_EngineResetActsOnEveryBlock :
    resettingFetch.engine = .resetting ∧
    (searching.GrantLaw ∧ searching.engine = .run ∧ searching.begun .commit = false ∧
      (searching.pick .pick0).control ≠ .idle ∧ (searching.pick .pick1).control = .idle ∧
      ¬ (searching.stage = none ∨ ∃ c, searching.stage = some (.waiting c) ∨ searching.stage = some (.granted c))) ∧
    (searchingAlone.GrantLaw ∧ searchingAlone.engine = .run ∧ searchingAlone.begun .commit = false ∧
      searchingAlone.stage = none) ∧
    ((cellUnderGrant .granted).GrantLaw ∧ (cellUnderGrant .granted).engine = .run ∧
      (cellUnderGrant .granted).begun .commit = false ∧
      (cellUnderGrant .granted).stage = some (.granted (pointCell 1 0 0 0))) ∧
    ((cellUnderGrant .applying).GrantLaw ∧ (cellUnderGrant .applying).engine = .run ∧
      (cellUnderGrant .applying).stage = some (.applying (pointCell 1 0 0 0))) ∧
    ((resolving .place).GrantLaw ∧ (resolving .place).engine = .run ∧
      (resolving .place).tool.commit = some ⟨entry 1, .place, true, true⟩) := by
  refine ⟨rfl, ⟨searching_grantLaw, rfl, rfl, by decide, rfl, ?_⟩, ⟨searchingAlone_grantLaw, rfl, rfl, rfl⟩,
    ⟨cellUnderGrant_grantLaw _ (.inl rfl), rfl, rfl, rfl⟩, ⟨cellUnderGrant_grantLaw _ (.inr rfl), rfl, rfl⟩,
    resolving_grantLaw, rfl, rfl⟩
  rintro (h | ⟨c, h | h⟩) <;> cases h

theorem witness_NoticeRegistersActBitwise : fig.NoticeLaw := ⟨by decide, by decide⟩

/-- The engine with INDEX of both ports set. -/
def indexed (app disp : Half) : State := { fig with ports := { fig.ports with appIndex := app, dispIndex := disp } }

/-- The places of the settings that are no half of a pair (R186). -/
def settingMap : List Nat :=
  List.range 0x18 ++ (List.range 12).map (0x20 + ·) ++ (List.range 7).map (0x30 + ·) ++ (List.range 7).map (0x38 + ·)

/-- The locations of the application window that read a value of their own (R194, R195). -/
def appMap : List Nat :=
  [0x000, 0x001, 0x002, 0x005, 0x010, 0x012, 0x013, 0x014, 0x019, 0x020, 0x021, 0x022, 0x023, 0x024, 0x025, 0x026,
    0x027, 0x030, 0x031, 0x032, 0x033, 0x038, 0x039, 0x03A, 0x03B, 0x040, 0x049, 0x04E, 0x04F, 0x050, 0x051, 0x052,
    0x057, 0x058, 0x059, 0x05A, 0x05B, 0x05C, 0x064, 0x065, 0x066, 0x067, 0x068, 0x069, 0x06A, 0x06B]
  ++ settingMap.map (0x080 + ·) ++ settingMap.map (0x180 + ·)

/-- The low locations of its pairs (R194, R195). -/
def pairMap : List Nat :=
  [0x015, 0x017, 0x01A, 0x01C, 0x01E, 0x034, 0x036, 0x041, 0x043, 0x045, 0x047, 0x04A, 0x04C, 0x053, 0x055, 0x060,
    0x062, 0x06C, 0x06E, 0x098, 0x09A, 0x198, 0x19A]

/-- The locations of the display window that read a value (R196). -/
def dispMap : List Nat :=
  [0x00, 0x01, 0x04, 0x0B, 0x0C, 0x0D, 0x0E, 0x10, 0x11, 0x12, 0x13, 0x14, 0x18, 0x19, 0x1A, 0x1B, 0x1C, 0x1D, 0x1E,
    0x1F, 0x20, 0x21, 0x22, 0x23, 0x24, 0x25, 0x26, 0x27, 0x28, 0x29, 0x2A, 0x2B]

theorem appPlaces_map (app disp : Half) : (appPlaces (indexed app disp)).map Prod.fst = appMap := by
  have h : (indexed app disp).tool.log = [] := rfl
  simp only [appPlaces, h, recordPlaces]
  rfl
theorem appPairs_map (s : State) : (appPairs s).map Prod.fst = pairMap := rfl
theorem dispPlaces_map (s : State) : (dispPlaces s).map Prod.fst = dispMap := rfl
theorem settingPlaces_map (st : Settings) :
    (settingPlaces st ++ gridHalves st).map Prod.fst = settingMap ++ [0x18, 0x19, 0x1A, 0x1B] := rfl

theorem mapped {α : Type} {l : List (Nat × α)} {m : List Nat} (h : l.map Prod.fst = m) (n : Nat)
    (hn : m.contains n = true) : ∃ e ∈ l, n = e.1 := by
  subst h
  obtain ⟨e, he, rfl⟩ := List.mem_map.mp (List.contains_iff_mem.mp hn)
  exact ⟨e, he, rfl⟩

theorem unmapped {α : Type} {l : List (Nat × α)} {m : List Nat} (h : l.map Prod.fst = m) (n : Nat)
    (hn : m.contains n = false) : ∀ e ∈ l, n ≠ e.1 := by
  rintro e he rfl
  rw [List.contains_iff_mem.mpr (h ▸ List.mem_map_of_mem he)] at hn
  cases hn

theorem witness_ReadsReturnTheLocation_mapped :
    (∀ n : Half, appMap.contains n.toNat = true →
      ∃ e ∈ appPlaces (indexed n 0), (indexed n 0).ports.appIndex.toNat = e.1) ∧
    (∀ n : Half, pairMap.contains n.toNat = true →
      ∃ e ∈ appPairs (indexed n 0), (indexed n 0).ports.appIndex.toNat = e.1) ∧
    (∀ n : Half, dispMap.contains n.toNat = true →
      ∃ e ∈ dispPlaces (indexed 0 n), (indexed 0 n).ports.dispIndex.toNat = e.1) ∧
    ([(0x000 : Half), 0x06B, 0x080, 0x0BE, 0x180, 0x1BE].all fun n => appMap.contains n.toNat) = true ∧
    pairMap.contains (0x19A : Half).toNat = true ∧
    ([(0x00 : Half), 0x2B].all fun n => dispMap.contains n.toNat) = true ∧
    let t := after (.dataRead .app .data) (indexed 0x19A 0)
    { t with active := { figSettings with gridY := 5 } }.ports = t.ports :=
  ⟨fun n hn => mapped (appPlaces_map n 0) _ hn, fun _ hn => mapped (appPairs_map _) _ hn,
    fun _ hn => mapped (dispPlaces_map _) _ hn, by decide +kernel, by decide +kernel, by decide +kernel, rfl⟩

theorem witness_ReadsReturnTheLocation_unmapped :
    (∀ n : Half, appMap.contains n.toNat = false →
      ∀ e ∈ appPlaces (indexed n 0), (indexed n 0).ports.appIndex.toNat ≠ e.1) ∧
    (∀ n : Half, dispMap.contains n.toNat = false →
      ∀ e ∈ dispPlaces (indexed 0 n), (indexed 0 n).ports.dispIndex.toNat ≠ e.1) ∧
    ([(0x003 : Half), 0x011, 0x05D, 0x0BF, 0x17F, 0x1BF, 0x200, 0xFFFF].all fun n =>
      !appMap.contains n.toNat && !pairMap.contains n.toNat && !(pairMap.map (· + 1)).contains n.toNat) = true ∧
    ([(0x02 : Half), 0x08, 0x0A, 0x2C, 0x40, 0xFFFF].all fun n => !dispMap.contains n.toNat && n.toNat != 9) = true ∧
    (pairMap.map (· + 1)).contains (0x016 : Half).toNat = true ∧ (indexed 0x016 0).ports.latch = none ∧
    (indexed 0 9).ports.dispIndex.toNat = 9 :=
  ⟨fun n hn => unmapped (appPlaces_map n 0) _ hn, fun _ hn => unmapped (dispPlaces_map _) _ hn, by decide +kernel,
    by decide +kernel, by decide +kernel, rfl, rfl⟩

theorem witness_RegisterWriteStoresOrIsIgnored :
    (∀ n ∈ [(0x01 : Half), 0x03, 0x04, 0x10, 0x11, 0x5D], (indexed n 0).ports.appIndex = n) ∧
    ((pickInputs .pick0)[0]? = some .xLow ∧ (indexed 0x60 0).ports.appIndex.toNat = pickFirst .pick0 + 0 ∧
      (pickInputs .pick0)[9]? = some .go ∧ (indexed 0x69 0).ports.appIndex.toNat = pickFirst .pick0 + 9) ∧
    (∀ n : Half, ((settingMap ++ [0x18, 0x19, 0x1A, 0x1B]).map (0x80 + ·)).contains n.toNat = false →
      ∀ e ∈ settingPlaces fig.staged ++ gridHalves fig.staged, n.toNat ≠ 0x80 + e.1) ∧
    ([(0x80 : Half), 0x9B, 0xBE].all fun n => (settingMap ++ [0x18, 0x19, 0x1A, 0x1B]).contains (n.toNat - 0x80)) = true ∧
    ([(0x02 : Half), 0x5F, 0x6A, 0x7F, 0x9C, 0xBF, 0xFFFF].all fun n =>
      !([0x00, 0x01, 0x03, 0x04, 0x10, 0x11, 0x5D].contains n.toNat) && (n.toNat < 0x60 || 0x69 < n.toNat) &&
        !((settingMap ++ [0x18, 0x19, 0x1A, 0x1B]).map (0x80 + ·)).contains n.toNat) = true ∧
    (∀ n ∈ [(0x00 : Half), 0x02, 0x03, 0x08, 0x09, 0x0A], (indexed 0 n).ports.dispIndex = n) ∧
    ([ViewField.ox, .oy, .scale, .width, .height][4]? = some .height ∧
      (indexed 0 0x14).ports.dispIndex.toNat = 0x10 + 4 ∧ (pickInputs .pick1)[7]? = some .go ∧
      (indexed 0 0x27).ports.dispIndex.toNat = pickFirst .pick1 + 7) ∧
    ([(0x01 : Half), 0x0F, 0x15, 0x1F, 0x28, 0xFFFF].all fun n =>
      !([0x00, 0x02, 0x03, 0x08, 0x09, 0x0A].contains n.toNat) && (n.toNat < 0x10 || 0x14 < n.toNat) &&
        (n.toNat < 0x20 || 0x27 < n.toNat)) = true := by
  refine ⟨fun _ _ => rfl, by decide, ?_, by decide +kernel, by decide +kernel, fun _ _ => rfl, by decide,
    by decide +kernel⟩
  intro n hn e he h
  have hm : n.toNat ∈ (settingMap ++ [0x18, 0x19, 0x1A, 0x1B]).map (0x80 + ·) := by
    rw [h, ← settingPlaces_map fig.staged]
    exact List.mem_map_of_mem (List.mem_map_of_mem he)
  rw [List.contains_iff_mem.mpr hm] at hn
  cases hn

/-! ## Witnesses of the statements about the update engine -/

/-- The list of section 5.7.1 in flight in a stage. -/
def listIn (stage : Stage) : State := withList (listAt 0x12000 1 stage) fig

/-- The engine with SUBMIT_LO written. -/
def withLow (low : Half) : State := { fig with update := { fig.update with submitLo := low } }

/-- The engine with a list waiting behind the list in flight. -/
def twoLists : State :=
  { listIn .fetching with update := { (listIn .fetching).update with waiting := some ⟨0x20000, 4⟩ } }

theorem witness_SubmissionIsAcceptedOrRefused :
    resettingFetch.engine = .resetting ∧
    (twoLists.update.inFlight.isSome = true ∧ twoLists.update.waiting.isSome = true) ∧
    ((listIn .fetching).engine = .run ∧ (listIn .fetching).update.inFlight.isSome = true ∧
      (listIn .fetching).update.waiting = none) ∧
    ((withLow 32).engine = .run ∧ (withLow 32).update.inFlight = none ∧ (withLow 32).update.waiting = none) ∧
    ((0 : Half) ++ (withLow 0).update.submitLo : Word) = 0 ∧
    ((0 : Half) ++ (withLow 31).update.submitLo : Word).toNat % 32 ≠ 0 ∧
    ((0 : Half) ++ (withLow 32).update.submitLo : Word) ≠ 0 ∧
    ((0 : Half) ++ (withLow 32).update.submitLo : Word).toNat % 32 = 0 := by
  decide

theorem witness_UpdateAckLowersTheDoneCount :
    ∀ d ∈ [(0 : BitVec 8), 1, 253, 254, 255],
      ∀ w ∈ [none, some ⟨0, 4⟩, some ⟨33, 4⟩, some (⟨64, 4⟩ : Submitted)],
        let s := { listIn .fetching with update := { (listIn .fetching).update with done := d, waiting := w } }
        s.update.waiting = w ∧ s.update.done = d ∧ s.update.teardown = false := by
  decide

/-- A cell of an op with EO set or clear. -/
def opCell (op : Nat) (eo : Nat) : Cell := ⟨0, BitVec.ofNat 32 (eo * 2 ^ 31 + op * 2 ^ 24), 0, 0, 0, 0, 0, 0⟩

theorem witness_FetchEndsTheListOrDispatchesTheCell :
    ((listIn .marking).update.inFlight = some (listAt 0x12000 1 .marking) ∧
      (listAt 0x12000 1 .marking).stage ≠ .fetching) ∧
    ((listIn .fetching).update.inFlight = some (listAt 0x12000 1 .fetching) ∧ (listIn .fetching).engine = .run ∧
      (opCell 15 0).control.toNat < 2 ^ 31 ∧ 2 ^ 31 ≤ (opCell 0 1).control.toNat ∧ (opCell 0 1).op = 0 ∧
      8 ≤ (opCell 8 1).op ∧ 8 ≤ (opCell 15 1).op ∧ 1 ≤ (opCell 1 1).op ∧ (opCell 5 1).op ≤ 5 ∧
      (opCell 6 1).op = 6 ∧ (opCell 7 1).op = 7 ∧ (listIn .fetching).arbiter.holder = none ∧
      (under .build (listIn .fetching)).arbiter.holder ≠ none ∧
      (under .commit (listIn .fetching)).arbiter.holder = some .commit) ∧
    (∀ r, (listIn .fetching).arbiter.waiting.get r = false) :=
  ⟨by decide, by decide, fun r => by cases r <;> rfl⟩

/-- A drag cell of an op from (x, 10) to (x, 10). -/
def dragCell (op : Nat) (x : Int) : Cell := { opCell op 1 with
  p0x := .ofInt 32 x, p0y := 10, third := .ofInt 32 x, p1y := 10 }

/-- The list in FETCHING with a drag figure of some segments. -/
def dragging (segments : Nat) : State :=
  { listIn .fetching with tool := { fig.tool with
    drag := ⟨some ⟨0, 0⟩, List.replicate segments ⟨⟨0, 0⟩, ⟨1, 1⟩⟩⟩ } }

/-- A commit with a list whose drag cell waits for its end. -/
def dragWaiting (op : Nat) (s : State) : State := withList (listAt 0x12000 1 (.waiting (dragCell op 8388607))) s

/-- The same without the list. -/
def listRemoved (s : State) : State := { s with update := { s.update with inFlight := none } }

theorem witness_waitingDragCell :
    (∀ s ∈ [(fullLog, Instr.tableGrant), (resolving .place, .resolutionEnd)],
      let d := dragWaiting 6 s.1
      d.update.inFlight = some (listAt 0x12000 1 (.waiting (dragCell 6 8388607))) ∧ d.engine = .run ∧
        d.arbiter.holder = some .commit ∧ d.applyPending = false ∧ d.arbiter.waiting = Arbiter.reset.waiting ∧
        (after s.2 (listRemoved d)).tool.commit = none ∧ (after s.2 (listRemoved d)).arbiter.holder = none) ∧
    2 ^ 31 ≤ (dragCell 6 8388607).control.toNat ∧ (dragCell 6 8388607).op = 6 := by
  decide +kernel

theorem witness_DragCellsChangeTheFigure :
    (dragging 63).update.inFlight = some (listAt 0x12000 1 .fetching) ∧ (dragging 63).engine = .run ∧
      2 ^ 31 ≤ (dragCell 6 8388607).control.toNat ∧ (dragging 63).arbiter.holder ≠ some .commit ∧
      (dragCell 6 8388607).op = 6 ∧ (dragCell 6 8388607).p0.inWorld = true ∧
      (dragCell 6 8388608).p0.inWorld = false ∧ (dragCell 7 8388607).op = 7 ∧
      (dragCell 7 (-8388609)).p1.inWorld = false ∧ (dragCell 7 (-8388608)).p0.inWorld = true ∧
      (dragCell 7 (-8388608)).p1.inWorld = true ∧ (listIn .fetching).tool.drag.base = none ∧
      (dragging 63).tool.drag.base = some ⟨0, 0⟩ ∧ (dragging 63).tool.drag.figure.length < 64 ∧
      64 ≤ (dragging 64).tool.drag.figure.length := by
  decide

/-- Nothing competes in a state that has no request, no apply and no cell waiting. -/
theorem quiet_of (s : State) (h : s.engine = .run ∧ s.applyPending = false ∧ s.arbiter.waiting = Arbiter.reset.waiting)
    (hs : ∀ c, s.stage ≠ some (.waiting c)) : Quiet s :=
  ⟨h.1, h.2.1, fun r => by rw [h.2.2]; cases r <;> rfl, hs⟩

theorem witness_grantedCell :
    (cellUnderGrant .granted).update.inFlight = some (listAt 0x12000 1 (.granted (pointCell 1 0 0 0))) ∧
      (cellUnderGrant .granted).arbiter.holder = some .update := ⟨rfl, rfl⟩

theorem witness_CellApplicationCompletesTheOp :
    let s := under .update (listIn (.applying (pointCell 1 0 0 0)))
    s.update.inFlight = some (listAt 0x12000 1 (.applying (pointCell 1 0 0 0))) ∧
      s.arbiter.holder = some .update ∧ (∀ r, s.arbiter.waiting.get r = false) ∧ s.applyPending = false ∧
      { s with engine := .resetting, applyPending := true }.engine = .resetting :=
  ⟨rfl, rfl, fun r => by cases r <;> rfl, rfl, rfl⟩

theorem witness_WriteBackCompletesTheCell :
    ((listIn .marking).update.inFlight = some (listAt 0x12000 1 .marking) ∧ (listIn .marking).engine = .run) ∧
    (∀ h ∈ [none, some (9 : Word)], ∀ link ∈ [(0 : Word), 1, 31, 32, 0xFFFFFFE0],
      (listIn (.writingBack (linkedCell link) h 0x01000000)).update.inFlight =
        some (listAt 0x12000 1 (.writingBack (linkedCell link) h 0x01000000))) ∧
    (linkedCell 0).link = 0 ∧ (linkedCell 31).link.toNat % 32 ≠ 0 ∧ (linkedCell 0xFFFFFFE0).link ≠ 0 ∧
      (linkedCell 0xFFFFFFE0).link.toNat % 32 = 0 ∧ fig.update.teardown = false ∧
      (after .updateTeardown (listIn .marking)).update.teardown = true :=
  ⟨⟨rfl, rfl⟩, fun _ _ _ _ => rfl, by decide⟩

theorem witness_ResetBoundaryDropsTheLists :
    ∀ stage ∈ [.fetching, .marking, .writingBack (linkedCell 0) none 0, .writingBack (linkedCell 0) (some 9) 0],
      { listIn stage with engine := .resetting }.update.inFlight = some (listAt 0x12000 1 stage) ∧
        { listIn stage with engine := .resetting }.engine = .resetting :=
  fun _ _ => ⟨rfl, rfl⟩

/-! ## Witnesses of the statements about the table -/

/-- A table whose slots all hold the same POINT. -/
def fullTable : Table :=
  { Table.reset with slots := Vector.replicate 1024 ⟨0, some ⟨.point ⟨0, 0⟩, .application, 0, .wide⟩⟩ }

/-- A table without a free reference and with 64 slots in the wide list. -/
def noRoom : Table := { Table.reset with freeRefs := 0, wide := allSlots.take 64 }

/-- An INSERT cell of a kind with its third word. -/
def insertCell (kind : Nat) (third : Word) : Cell :=
  ⟨0, BitVec.ofNat 32 (0x81000000 + kind), 0, 0, 0, third, 0, 0⟩

theorem witness_InsertTakesTheLowestFreeSlot :
    (insertCell 0 0).op = 1 ∧ 3 ≤ (insertCell 3 0).kind ∧ (insertCell 2 8388608).kind < 3 ∧
    legalShape (insertCell 2 8388608) = none ∧ legalShape (insertCell 2 8388607) = some (.circle ⟨0, 0⟩ 8388607) ∧
    legalShape (insertCell 0 0) = some (.point ⟨0, 0⟩) ∧
    (∀ n, fullTable.target n ≠ none) ∧
    ((oneTarget .application).target 0 = none ∧ ∀ m : SlotNo, m < 0 → (oneTarget .application).target m ≠ none) ∧
    noRoom.target 0 = none ∧ noRoom.place (Shape.point ⟨0, 0⟩).box = none ∧
    Table.reset.place (Shape.point ⟨0, 0⟩).box = some (.bins [136]) := by
  refine ⟨by decide, by decide, by decide, by decide +kernel, by decide +kernel, by decide +kernel, ?_,
    ⟨rfl, fun m h => absurd h (Fin.not_lt_zero m)⟩, rfl, by decide +kernel, by decide +kernel⟩
  intro n
  simp [fullTable, Table.target]

theorem witness_PlacementByTheThreeConditions :
    let low : Box := ⟨-32768, -32768, -32768 + 7 * 4096, -32768⟩
    let high : Box := ⟨32767, 32767, 32767, 32767⟩
    let beyond : Box := ⟨0, 0, 32768, 0⟩
    low.xmin ≤ low.xmax ∧ low.ymin ≤ low.ymax ∧
      Table.reset.place low = some (.bins [0, 1, 2, 3, 4, 5, 6, 7]) ∧
      Table.reset.place high = some (.bins [255]) ∧ Table.reset.place beyond = some .wide ∧
      Table.reset.wide.length < 64 ∧ 64 ≤ noRoom.wide.length ∧ noRoom.place beyond = none := by
  decide +kernel

theorem witness_RemovalsReleaseTheirTargets :
    ((oneTarget .learned).Law 1 ∧ (oneTarget .application).Law 0) ∧
    ((deleteCell 3).op = 2 ∧ (3 : Nat) / 1024 = ((oneTarget .application).slots[(3 : SlotNo)]).reuse.toNat ∧
      (oneTarget .application).target 3 ≠ none ∧ (oneTarget .application).target 4 = none ∧
      (0x7FFF : Nat) / 1024 ≠ ((oneTarget .application).slots[(1023 : SlotNo)]).reuse.toNat) ∧
    ((opCell 3 1).op = 3 ∧ (opCell 5 1).op = 5 ∧ (opCell 4 1).op = 4) ∧
    ((dragCell 4 8388608).p0.inWorld = false ∧ (dragCell 4 3).p0.inWorld = true ∧ (dragCell 4 3).third.toInt < 4 ∧
      19 < (dragCell 4 20).third.toInt ∧ 4 ≤ (dragCell 4 4).third.toInt ∧ (dragCell 4 19).third.toInt ≤ 19) := by
  refine ⟨⟨oneTarget_law _ _ (fun _ => Nat.le_refl 1), oneTarget_law _ _ (fun h => nomatch h)⟩, ?_, by decide, by decide⟩
  decide +kernel

theorem witness_LearningRefreshesEntersOrSkips :
    ((oneTarget .application).Law 0 ∧ (oneTarget .application).learned = []) ∧
    ((oneTarget .learned).Law 1 ∧ (3 : SlotNo) ∈ (oneTarget .learned).learned ∧
      (oneTarget .learned).target 3 = some ⟨.point ⟨0, 0⟩, .learned, 7, .bins [136]⟩ ∧
      (oneTarget .learned).learned.length = 1) ∧
    (∀ n g, n ∈ (oneTarget .learned).learned → (oneTarget .learned).target n = some g →
      g.shape ≠ .point ⟨0, 1⟩) := by
  refine ⟨⟨oneTarget_law _ _ (fun h => nomatch h), rfl⟩,
    ⟨oneTarget_law _ _ (fun _ => Nat.le_refl 1), by decide, by rw [oneTarget_target]; rfl, rfl⟩, ?_⟩
  intro n g hn hg
  rw [oneTarget_target] at hg
  simp [oneTarget] at hn
  simp only [hn, if_true, Option.some.injEq] at hg
  subst hg
  decide

theorem witness_GatherMissesNoTarget :
    let q : Box := ⟨0, -1, 0, 0⟩
    (oneTarget .application).Law 0 ∧ q.xmin ≤ q.xmax ∧ q.ymin ≤ q.ymax ∧
      (oneTarget .application).target 3 = some ⟨.point ⟨0, 0⟩, .application, 7, .bins [136]⟩ ∧
      (Shape.point ⟨0, 0⟩).box.xmin ≤ q.xmax ∧ q.xmin ≤ (Shape.point ⟨0, 0⟩).box.xmax ∧
      (Shape.point ⟨0, 0⟩).box.ymin ≤ q.ymax ∧ q.ymin ≤ (Shape.point ⟨0, 0⟩).box.ymax :=
  ⟨oneTarget_law _ _ (fun h => nomatch h), by decide, by decide, by rw [oneTarget_target]; rfl, by decide⟩

theorem witness_NextGrantGoesToCommitThenInTurn :
    let waiting := fun (w : Requests) => { searching with arbiter := { searching.arbiter with waiting := w, turn := .update } }
    (waiting ⟨true, true, false, true, true⟩).arbiter.waiting.commit = true ∧
    ((waiting ⟨false, true, false, false, true⟩).arbiter.waiting.commit = false ∧
      (waiting ⟨false, true, false, false, true⟩).arbiter.waiting.get Turn.pick1.requester = true ∧
      ∀ y : Turn, (waiting ⟨false, true, false, false, true⟩).arbiter.waiting.get y.requester = true →
        distance .update .pick1 ≤ distance .update y) ∧
    ∀ r, (waiting ⟨false, false, false, false, false⟩).arbiter.waiting.get r = false :=
  ⟨rfl, ⟨rfl, rfl, fun y h => by cases y <;> first | decide | exact absurd h (by decide)⟩,
    fun r => by cases r <;> rfl⟩

/-- No request waits. -/
def nobodyWaits (s : State) : State :=
  { s with arbiter := { s.arbiter with waiting := ⟨false, false, false, false, false⟩ } }

/-- Each command that can release the table, with a state in which it does. -/
def releases : List (Instr × State) :=
  [(.tableGrant, fullLog), (.resolutionEnd, resolving .place), (.cellApplication, cellUnderGrant .applying),
    (.pickCompletion, searchingAlone)]

theorem witness_releases :
    ∀ r ∈ releases, r.2.arbiter.holder ≠ none ∧ r.2.applyPending = false ∧
      (after r.1 (nobodyWaits r.2)).arbiter.holder = none := by
  decide +kernel

theorem test_release_grants_the_next :
    let s := searchingAlone
    let t := after .pickCompletion
      { s with pick1 := figPick 20 3 .waiting, arbiter := { s.arbiter with waiting := ⟨false, false, false, false, true⟩ } }
    t.pick1.control = .searching ∧ t.arbiter.holder = some .pick1 ∧ t.arbiter.turn = .pick1 := by decide +kernel

/-! ## Witnesses of the statements about resolutions and arithmetic -/

/-- The best candidate of the first row of section 6.10.1. -/
def figCandidate : Candidate := ⟨⟨⟨12, 0⟩, .node, 0⟩, ⟨2030, 2510⟩, 1000⟩

theorem witness_CandidateChoiceFollowsTheKeys :
    bestCandidate [figCandidate] = some figCandidate ∧
      figCandidate ∈ candidates figTable ⟨2000, 2500⟩ 80 (fun _ => true) (fun f => f == .node) := by
  decide +kernel

theorem witness_ObjectSnapHoldsTheCapture :
    (let i := figInputs ⟨1960, 2440⟩ (some ⟨⟨12, 0⟩, .node, 0⟩);
      validCapture i figTable = some (⟨⟨12, 0⟩, .node, 0⟩, ⟨2030, 2510⟩) ∧
        (resolutionBest i figTable).map (fun b => b.ref.feature) = some .endPoint) ∧
    (let i := figInputs ⟨2200, 2700⟩ (some ⟨⟨7, 0⟩, .mid, 0⟩);
      validCapture i figTable = some (⟨⟨7, 0⟩, .mid, 0⟩, ⟨2100, 2600⟩) ∧
        (resolutionBest i figTable).map (fun b => b.ref.feature) = some .endPoint) ∧
    validCapture (figInputs ⟨2000, 2500⟩ none) figTable = none ∧
    (let i := figInputs ⟨2000, 2500⟩ none;
      i.mode = .normal ∧ (objectSnap i figTable).isSome = true ∧ objectSnap i Table.reset = none) := by
  decide +kernel

theorem witness_constraint :
    (let wide := fun c : Point => (c.x - 1000).natAbs;
      let high := fun c : Point => (c.y - 1000).natAbs;
      (⟨1128, 1053⟩ : Point) ≠ ⟨1000, 1000⟩ ∧ high ⟨700, 1300⟩ ≤ wide ⟨700, 1300⟩ ∧ wide ⟨999, 1002⟩ < high ⟨999, 1002⟩ ∧
      128 * high ⟨1128, 1053⟩ ≤ 53 * wide ⟨1128, 1053⟩ ∧ 128 * wide ⟨1053, 1128⟩ ≤ 53 * high ⟨1053, 1128⟩ ∧
      53 * wide ⟨1128, 1054⟩ < 128 * high ⟨1128, 1054⟩ ∧ 53 * high ⟨1128, 1054⟩ < 128 * wide ⟨1128, 1054⟩) ∧
    { figSettings with constraint := 0 }.constraint = 0 ∧ { figSettings with constraint := 1 }.constraint = 1 ∧
    { figSettings with constraint := 2 }.constraint = 2 := by
  decide

theorem witness_ResolutionResultIsConsistent :
    (resolve (figInputs ⟨1960, 2440⟩ (some ⟨⟨12, 0⟩, .node, 0⟩)) figTable).captured = true ∧
    (resolve (figInputs ⟨5000, 9000⟩ none) figTable).handle = none ∧
    (let i := { figInputs ⟨2000, 2500⟩ none with mode := .gridOnly, anchor := none };
      i.mode ≠ .normal ∧ (resolve i figTable).feature = .grid) := by
  decide +kernel

theorem witness_RoundingGoesToTheNearest :
    (0 : Int) < 1 ∧ (0 : Int) < 2 ∧ 2 * ((-5) - roundHalfAway (-5) 2 * 2).natAbs = (2 : Int).natAbs ∧
      (⟨-8388608, -8388608⟩ : Point).inWorld = true ∧ (⟨8388607, 8388607⟩ : Point).inWorld = true := by
  decide

theorem witness_DerivedPointsLieWithinTheSegment :
    let t := fun (a b p : Point) => (p.x - a.x) * (b.x - a.x) + (p.y - a.y) * (b.y - a.y)
    (⟨-8388608, -8388608⟩ : Point).inWorld = true ∧ (⟨8388607, 8388607⟩ : Point).inWorld = true ∧
      t ⟨0, 0⟩ ⟨7, 3⟩ ⟨0, 0⟩ = 0 ∧ 58 ≤ t ⟨0, 0⟩ ⟨7, 3⟩ ⟨7, 3⟩ ∧ 0 < t ⟨0, 0⟩ ⟨7, 3⟩ ⟨1, 0⟩ ∧ t ⟨0, 0⟩ ⟨7, 3⟩ ⟨1, 0⟩ < 58 := by
  decide

theorem witness_calibrationCases :
    (999 - 1000 : Int) * 16384 < -2048 ∧ 16 * (4096 : Int) - 1 ≤ (16383 * 65535 + 2048) / 4096 ∧
      (-2048 : Int) ≤ (0 - 1) * 2048 ∧ ((0 - 1) * 2048 + 2048) / 4096 ≤ 16 * (1 : Int) - 1 := by decide

theorem witness_TabletMappingStaysOnTheDisplay :
    figView.Legal ∧ (⟨-8388608, 8388607, 16777215, 1, 4096⟩ : View).Legal :=
  ⟨figView_legal, by decide, by decide, by decide, by decide⟩

/-! ## Witnesses of the statements about the tool unit -/

theorem witness_CommitStartTakesTheLowestButton :
    (resettingFetch.engine = .resetting ∧ fig.link.queue = [] ∧ (committing 1 .place false fig).tool.commit ≠ none) ∧
    ((queued 8 fig).link.queue = entry 8 :: [] ∧ (queued 8 fig).engine = .run ∧ (queued 8 fig).tool.commit = none ∧
      (entry 8).buttons.getLsbD (buttonNumber .aux) = true ∧ (entry 3).buttons.getLsbD (buttonNumber .place) = true ∧
      (queued 8 fig).arbiter.holder = none ∧ (under .build (queued 8 fig)).arbiter.holder ≠ none) ∧
    (∀ n, n < buttonNumber .aux → (entry 8).buttons.getLsbD n = false) ∧
    ∀ r, (queued 8 fig).arbiter.waiting.get r = false := by
  refine ⟨by decide, by decide, fun n h => ?_, fun r => by cases r <;> rfl⟩
  match n, h with
  | 0, _ => rfl
  | 1, _ => rfl
  | 2, _ => rfl

/-- The engine with records in the log and an error counter. -/
def withLog (records : Nat) (errors : BitVec 8) : State :=
  { linked (figLink errors) with tool := { fig.tool with log := List.replicate records (record 28) } }

theorem granted (buttons : BitVec 4) (b : ButtonName) (records : Nat) (errors : BitVec 8) :
    GrantedCommit (committing buttons b false (withLog records errors)) (entry buttons) b :=
  ⟨quiet_of _ ⟨rfl, rfl, rfl⟩ (by intro c h; cases h), rfl, rfl⟩

theorem witness_RefusedCommitIsRefusedWhole :
    (GrantedCommit (committing 4 .cancel false (withLog 16 0)) (entry 4) .cancel ∧
      16 ≤ (committing 4 .cancel false (withLog 16 0)).tool.log.length) ∧
    (GrantedCommit (committing 1 .place false (withLog 15 128)) (entry 1) .place ∧
      (committing 1 .place false (withLog 15 128)).tool.log.length < 16 ∧
      128 ≤ (committing 1 .place false (withLog 15 128)).link.errors.toNat ∧ ButtonName.place ≠ .cancel) :=
  ⟨⟨granted _ _ _ _, by decide⟩, granted _ _ _ _, by decide⟩

theorem witness_FinishAndCancelClearTheFigure :
    (GrantedCommit (committing 4 .cancel false (withLog 15 255)) (entry 4) .cancel ∧
      (committing 4 .cancel false (withLog 15 255)).tool.log.length < 16) ∧
    (GrantedCommit (committing 2 .finish false (withLog 0 127)) (entry 2) .finish ∧
      (committing 2 .finish false (withLog 0 127)).tool.log.length < 16 ∧
      (committing 2 .finish false (withLog 0 127)).link.errors.toNat < 128) :=
  ⟨⟨granted _ _ _ _, by decide⟩, granted _ _ _ _, by decide⟩

/-- An AUX under its grant with F at cell 0 of window A. -/
def menuPress : State :=
  { committing 8 .aux false (withLog 15 127) with
    active := { figSettings with windowA := ⟨1, 2600, 1800, 8, 8, 16, 10⟩ } }

theorem witness_GrantedPressPicksAMenuCellOrResolves :
    (GrantedCommit (committing 1 .place false (withLog 15 127)) (entry 1) .place ∧
      (committing 1 .place false (withLog 15 127)).tool.log.length < 16 ∧
      (committing 1 .place false (withLog 15 127)).link.errors.toNat < 128 ∧
      (decodeWindow (withLog 15 127).active (entry 1).f).mode ≠ .menu) ∧
    (GrantedCommit menuPress (entry 8) .aux ∧ menuPress.tool.log.length < 16 ∧ menuPress.link.errors.toNat < 128 ∧
      decodeWindow menuPress.active (entry 8).f = ⟨.menu, some (.a, 0)⟩ ∧ menuPress.resolver.resolution = none) ∧
    (ClaimedBy menuSettings.windowA ⟨14000, 200⟩ ∧ ¬ ClaimedBy menuSettings.windowA ⟨15920, 1199⟩ ∧
      ClaimedBy menuSettings.windowB ⟨15920, 1199⟩ ∧ ¬ ClaimedBy menuSettings.windowA ⟨16383, 1500⟩ ∧
      ¬ ClaimedBy menuSettings.windowB ⟨16383, 1500⟩) :=
  ⟨⟨granted _ _ _ _, by decide, by decide, by decide⟩,
    ⟨⟨quiet_of _ ⟨rfl, rfl, rfl⟩ (by intro c h; cases h), rfl, rfl⟩, by decide, by decide, by decide, rfl⟩,
    by unfold ClaimedBy; decide⟩

theorem witness_ResolvedPressMakesItsRecord :
    ∀ b, ResolvingCommit (resolving b) (entry 1) b
      ⟨⟨2000, 2500⟩, .normal, { figSettings with tool := 3 }, 2560, none, none⟩ :=
  fun _ => ⟨quiet_of _ ⟨rfl, rfl, rfl⟩ (by intro c h; cases h), rfl, rfl, rfl⟩

theorem witness_ResolvedPressWhileResetting :
    ∀ b ∈ [ButtonName.place, .aux], ∀ f ∈ [none, some (listAt 0x12000 0 .fetching)],
      (resettingCommit b f).UpdateLaw ∧ (resettingCommit b f).engine = .resetting ∧
        (resettingCommit b f).arbiter.holder = some .commit ∧
        (resettingCommit b f).tool.commit = some ⟨entry 1, b, false, true⟩ ∧
        (resettingCommit b f).resolver.resolution.isSome = true ∧ (b = .place ∨ b = .aux) ∧
        (resettingCommit b f).applyPending = false ∧ ∀ r, (resettingCommit b f).arbiter.waiting.get r = false := by
  intro b hb f hf
  refine ⟨resettingCommit_updateLaw b f ?_, rfl, rfl, rfl, rfl, by simpa using hb, rfl, fun r => by cases r <;> rfl⟩
  rcases List.mem_cons.mp hf with rfl | hf
  · exact nofun
  · cases List.mem_singleton.mp hf
    exact fun g h => (Option.some.inj h).symm

theorem witness_CommitPopRemovesTheOldestRecord :
    fig.tool.log = [] ∧ (withLog 16 0).tool.log = record 28 :: List.replicate 15 (record 28) := ⟨rfl, rfl⟩

/-! ## Witnesses of the statements about the preview builder -/

theorem lowestFree_of (s : State) (h : (s.builder.banks[0]).state = .shown ∧ (s.builder.banks[1]).state = .free) :
    LowestFree s 1 := by
  refine ⟨h.2, fun j hj => ?_⟩
  match j, hj with
  | 0, _ => show (s.builder.banks[0]).state ≠ .free
            rw [h.1]; decide

/-- The due build with F over a menu cell. -/
def menuDue : State := { due with active := { figSettings with windowA := ⟨1, 2600, 1800, 8, 8, 16, 10⟩ } }

/-- The due build with the condition OUT. -/
def absentDue : State := { due with link := { due.link with condition := .out } }

theorem witness_BuildStartTakesTheLowestFreeBank :
    (fig.builder.rebuild = false ∧ completing.builder.build ≠ none ∧ resettingFetch.engine = .resetting) ∧
    (∀ s ∈ [due, menuDue, absentDue], LowestFree s 1 ∧ s.builder.rebuild = true ∧ s.builder.build = none ∧
      s.engine = .run ∧ s.applyPending = false) ∧
    absentDue.link.condition ≠ .inside ∧
    (menuDue.link.condition = .inside ∧ decodeWindow menuDue.active menuDue.link.f = ⟨.menu, some (.a, 0)⟩) ∧
    (due.link.condition = .inside ∧ (decodeWindow due.active due.link.f).mode ≠ .menu ∧ due.arbiter.holder = none ∧
      (under .pick1 due).arbiter.holder ≠ none) ∧
    ∀ r, due.arbiter.waiting.get r = false := by
  refine ⟨by decide, ?_, by decide, by decide, by decide, fun r => by cases r <;> rfl⟩
  intro s h
  simp only [List.mem_cons, List.not_mem_nil, or_false] at h
  rcases h with rfl | rfl | rfl <;> exact ⟨lowestFree_of _ ⟨rfl, rfl⟩, rfl, rfl, rfl, rfl⟩

/-- No apply is pending. -/
def noApply (s : State) : State := { s with applyPending := false }

theorem witness_applyAtRelease :
    ∀ r ∈ releases, r.1 ≠ .tableGrant →
      let s := { r.2 with applyPending := true }
      s.applyPending = true ∧ s.arbiter.holder ≠ none ∧
        (after r.1 (noApply (nobodyWaits s))).arbiter.holder = none := by
  decide +kernel

theorem witness_ApplyIsTakenFirst :
    (applying.applyPending = true ∧ applying.builder.rebuild = true ∧ applying.builder.build = none ∧
      applying.engine = .run ∧ (under .pick1 applying).arbiter.holder ≠ none ∧ applying.arbiter.holder = none ∧
      LowestFree applying 1) ∧
    (let s := { committing 1 .place false fig with applyPending := true };
      s.applyPending = true ∧ s.arbiter.holder = some .commit ∧
        s.tool.commit = some ⟨entry 1, .place, true, false⟩) ∧
    (let s := { learnedOne with applyPending := true, staged := applying.staged };
      s.applyPending = true ∧ s.TableLaw ∧ (s.staged.clamped s.active.tool).learnCap.toNat < s.table.learned.length) :=
  ⟨⟨rfl, rfl, rfl, rfl, by decide, rfl, lowestFree_of _ ⟨rfl, rfl⟩⟩, ⟨rfl, rfl, rfl⟩, rfl, learnedOne_tableLaw,
    by decide +kernel⟩

/-- The build of section 8.9.1 resolving under its grant. -/
def buildResolving : State :=
  { under .build (withBuild (figBuild .resolving) due) with
    resolver := ⟨none, true, some (figInputs ⟨2000, 2500⟩ none)⟩ }

theorem witness_BuildResolvesUnderItsGrant :
    (let s := under .build (withBuild (figBuild .waiting) due);
      s.builder.build = some (figBuild .waiting) ∧ (figBuild .waiting).sort = .cursor ⟨2000, 2500⟩ .normal ∧
        s.arbiter.holder = some .build ∧ (figBuild .waiting).phase = .waiting) ∧
    (buildResolving.builder.build = some (figBuild .resolving) ∧ buildResolving.arbiter.holder = some .build ∧
      (figBuild .resolving).phase = .resolving ∧
      buildResolving.resolver.resolution = some (figInputs ⟨2000, 2500⟩ none)) ∧
    ∀ r, buildResolving.arbiter.waiting.get r = false :=
  ⟨⟨rfl, rfl, rfl, rfl⟩, ⟨rfl, rfl, rfl, rfl⟩, fun r => by cases r <;> rfl⟩

theorem witness_BuildCompletionMakesItsBankReady :
    composed.builder.build = some (figBuild (.composing (some figResult) 51)) ∧
      (figBuild (.composing (some figResult) 51)).phase = .composing (some figResult) 51 := ⟨rfl, rfl⟩

theorem witness_CursorPictureHasItsElements :
    (figBuild .waiting).sort = .cursor ⟨2000, 2500⟩ .normal ∧
      { figBuild .waiting with sort := .menu .b 159 }.sort = .menu .b 159 ∧
      { figBuild .waiting with sort := .absent }.sort = .absent := ⟨rfl, rfl, rfl⟩

theorem witness_FrameStartShowsTheReadyBank :
    (∃ i : Fin 3, ((after .buildCompletion completing).builder.banks[i]).state = .ready) ∧
      (¬ ∃ i : Fin 3, (fig.builder.banks[i]).state = .ready) ∧
      (after (.stagedViewWrite .scale 0) fig).builder.stagedWritten = true :=
  ⟨⟨1, by decide +kernel⟩, by decide, by decide⟩

theorem witness_entriesBeforeEnd :
    Entry.endMark ∉ ([] : List Entry) ∧ Entry.endMark ∉ [Entry.cursorInfo ⟨0, 0⟩ .none, .move ⟨0, 0⟩ .solid .rubber] := by
  decide

theorem witness_activeDevice :
    figSettings.activeDevice.toNat < 8 ∧ { figSettings with activeDevice := 7 }.activeDevice.toNat < 8 := by decide

theorem witness_StreamReadsTheShownBank :
    (completing.builder.BanksLaw ∧ (completing.builder.banks[(0 : Fin 3)]).state = .shown ∧
      (shownWords completing.builder)[completing.builder.streamPtr]? = some 0) ∧
    (let b := { completing.builder with streamPtr := 9 };
      b.BanksLaw ∧ b.streamPtr = ((upToEnd (b.banks[(0 : Fin 3)]).entries).flatMap Entry.words).length) :=
  ⟨⟨completing_banksLaw, rfl, by decide⟩, ⟨by decide, by decide, by decide, by decide⟩, by decide⟩

/-! ## Witnesses of the statements about pick queries -/

theorem witness_PickGoStartsASearchOrIsBlocked :
    ((searching.pick .pick0).control ≠ .idle ∧ PickInput.go ∈ pickInputs .pick0 ∧
      PickInput.xHigh ∈ pickInputs .pick0 ∧ PickInput.y ∈ pickInputs .pick1 ∧ PickInput.y ≠ .go) ∧
    ((fig.pick .pick1).control = .idle ∧ fig.arbiter.holder = none ∧ (searching.pick .pick1).control = .idle ∧
      searching.arbiter.holder ≠ none ∧ (0xFFFFFFFE : Word).toNat % 2 = 0 ∧ (0xFFFFFFFF : Word).toNat % 2 = 1) ∧
    ∀ r, fig.arbiter.waiting.get r = false :=
  ⟨by decide, by decide, fun r => by cases r <;> rfl⟩

theorem witness_PickCompletionHandsBackTheBest :
    ((searchingAlone.pick .pick0).control = .searching ∧
      searchingAlone.arbiter.holder = some (slotTurn .pick0).requester ∧ searchingAlone.applyPending = false) ∧
    (∀ r, searchingAlone.arbiter.waiting.get r = false) ∧
    (let s := under .pick1 { fig with pick1 := figPick 0 0x3F .searching };
      (s.pick .pick1).control = .searching ∧ s.arbiter.holder = some (slotTurn .pick1).requester ∧
        s.applyPending = false ∧ ∀ r, s.arbiter.waiting.get r = false) :=
  ⟨by decide, fun r => by cases r <;> rfl, rfl, rfl, rfl, fun r => by cases r <;> rfl⟩

end Sys2Proof.Tests
end

/-! ## Rounding, saturation and square roots (R3 to R6, R20) -/

namespace Sys2Proof.Machine

/-- Round half up leaves less than half a divisor above, and at most half below (R4). -/
theorem roundHalfUp_near (n d : Int) (hd : 0 < d) :
    2 * (n - roundHalfUp n d * d) < d ∧ -d ≤ 2 * (n - roundHalfUp n d * d) := by
  have below := Int.mul_ediv_self_le (x := 2 * n + d) (k := 2 * d) (by omega)
  have above := Int.lt_mul_ediv_self_add (x := 2 * n + d) (k := 2 * d) (by omega)
  unfold roundHalfUp
  constructor <;> nlinarith

/-- Zero rounds to zero. -/
theorem roundHalfUp_zero (d : Int) (hd : 0 < d) : roundHalfUp 0 d = 0 :=
  Int.ediv_eq_zero_of_lt (by omega) (by omega)

theorem roundHalfAway_of_nonneg (n d : Int) (hn : 0 ≤ n) : roundHalfAway n d = roundHalfUp n d := if_pos hn

/-- Round half away is symmetric about zero (R5). -/
theorem roundHalfAway_neg (n d : Int) (hd : 0 < d) : roundHalfAway (-n) d = -roundHalfAway n d := by
  unfold roundHalfAway
  rcases lt_trichotomy n 0 with h | rfl | h
  · rw [if_pos (by omega), if_neg (by omega), neg_neg]
  · simp [roundHalfUp_zero d hd]
  · rw [if_neg (by omega), if_pos (by omega), neg_neg]

/-- A property of quotients that a change of sign keeps holds for round half away when it holds for nonnegative
dividends. -/
theorem roundHalfAway_of_symmetric {p : Int → Int → Prop} (d : Int) (hd : 0 < d) (sym : ∀ n r, p n r → p (-n) (-r))
    (pos : ∀ n, 0 ≤ n → p n (roundHalfUp n d)) (n : Int) : p n (roundHalfAway n d) := by
  rcases le_total 0 n with h | h
  · rw [roundHalfAway_of_nonneg n d h]
    exact pos n h
  · have := sym _ _ (pos (-n) (by omega))
    rwa [← roundHalfAway_of_nonneg (-n) d (by omega), roundHalfAway_neg n d hd, neg_neg, neg_neg] at this

/-- Round half away is off by at most half a divisor (R5). -/
theorem roundHalfAway_near (n d : Int) (hd : 0 < d) : 2 * (n - roundHalfAway n d * d).natAbs ≤ d.natAbs := by
  refine roundHalfAway_of_symmetric (p := fun n r => 2 * (n - r * d).natAbs ≤ d.natAbs) d hd ?_ ?_ n
  · intro n r h
    rwa [neg_mul, neg_sub_neg, ← Int.natAbs_neg, neg_sub]
  · intro n _
    have := roundHalfUp_near n d hd
    omega

/-- At a tie, round half away takes the integer farther from zero (R5). -/
theorem roundHalfAway_tie (n d : Int) (hd : 0 < d) :
    2 * (n - roundHalfAway n d * d).natAbs = d.natAbs → n.natAbs ≤ (roundHalfAway n d * d).natAbs := by
  refine roundHalfAway_of_symmetric
    (p := fun n r => 2 * (n - r * d).natAbs = d.natAbs → n.natAbs ≤ (r * d).natAbs) d hd ?_ ?_ n
  · intro n r h
    rwa [neg_mul, neg_sub_neg, ← Int.natAbs_neg (_ - _), neg_sub, Int.natAbs_neg, Int.natAbs_neg]
  · intro n hn tie
    have := roundHalfUp_near n d hd
    omega

/-- A part t/l of a length, rounded, lies between 0 and the length (R17). -/
theorem roundHalfAway_part (t l x : Int) (ht : 0 < t) (hl : t < l) :
    min 0 x ≤ roundHalfAway (t * x) l ∧ roundHalfAway (t * x) l ≤ max 0 x := by
  have part : ∀ y, 0 ≤ y → 0 ≤ roundHalfAway (t * y) l ∧ roundHalfAway (t * y) l ≤ y := by
    intro y hy
    have nonneg : 0 ≤ t * y := mul_nonneg ht.le hy
    rw [roundHalfAway_of_nonneg _ _ nonneg]
    refine ⟨Int.ediv_nonneg (by omega) (by omega), Int.lt_add_one_iff.1 (Int.ediv_lt_of_lt_mul (by omega) ?_)⟩
    nlinarith
  rcases le_total 0 x with hx | hx
  · have := part x hx
    omega
  · have := part (-x) (by omega)
    rw [mul_neg, roundHalfAway_neg _ _ (by omega)] at this
    omega

/-- Saturation is the nearest value of the world range (R6). -/
theorem sat_eq (v : Int) : sat v = max (-8388608) (min 8388607 v) := by
  simp only [sat, clampInt, Config.worldMin, Config.worldMax]
  split_ifs <;> omega

theorem inWorld_iff (v : Int) : inWorld v = true ↔ -8388608 ≤ v ∧ v ≤ 8388607 := by
  simp only [inWorld, Bool.and_eq_true, decide_eq_true_eq]
  rfl

theorem Point.inWorld_iff (p : Point) :
    p.inWorld = true ↔ -8388608 ≤ p.x ∧ p.x ≤ 8388607 ∧ -8388608 ≤ p.y ∧ p.y ≤ 8388607 := by
  simp [Point.inWorld, Machine.inWorld_iff, and_assoc]

/-- A saturated point lies in the world range (R6). -/
@[simp] theorem satPoint_inWorld (x y : Int) : (satPoint x y).inWorld = true := by
  simp only [Point.inWorld_iff, satPoint, sat_eq]
  omega

/-- Saturation leaves a point of the world range (R6). -/
theorem satPoint_of_inWorld (p : Point) (h : p.inWorld = true) : satPoint p.x p.y = p := by
  rw [Point.inWorld_iff] at h
  simp only [satPoint, sat_eq]
  congr 1 <;> omega

/-- The settled bits are those of the square root: the result is the greatest integer whose square does not exceed d,
when the root lies from r up and below r + 2^k (R20). -/
theorem isqrtBits_spec (d k r : Nat) (low : r * r ≤ d) (high : d < (r + 2 ^ k) * (r + 2 ^ k)) :
    isqrtBits d k r * isqrtBits d k r ≤ d ∧ d < (isqrtBits d k r + 1) * (isqrtBits d k r + 1) := by
  induction k generalizing r with
  | zero => exact ⟨low, high⟩
  | succ k ih =>
    unfold isqrtBits
    split
    · rename_i h
      exact ih _ h (by rwa [add_assoc, ← two_mul, ← pow_succ'])
    · rename_i h
      exact ih _ low (not_le.1 h)

/-- The integer square root of a number below 2^50 (R2, R20). -/
theorem isqrt_spec (d : Nat) (h : d < 2 ^ 50) : isqrt d * isqrt d ≤ d ∧ d < (isqrt d + 1) * (isqrt d + 1) :=
  isqrtBits_spec d 25 0 (by omega) (by norm_num; omega)

/-- The squared distance of two world points is below 2^50 (R2). -/
theorem dist2_lt (c p : Point) (hc : c.inWorld = true) (hp : p.inWorld = true) : (dist2 c p).toNat < 2 ^ 50 := by
  have square : ∀ v : Int, -16777215 ≤ v → v ≤ 16777215 → v * v ≤ 16777215 * 16777215 := by
    intro v h1 h2
    nlinarith
  rw [Point.inWorld_iff] at hc hp
  have hx := square (c.x - p.x) (by omega) (by omega)
  have hy := square (c.y - p.y) (by omega) (by omega)
  simp only [dist2]
  omega

/-- The radius is the square root of the squared distance rounded to the nearest integer, at most 8,388,607 (R20). -/
theorem circleRadius_eq (c p : Point) :
    circleRadius c p = min 8388607
      (if isqrt (dist2 c p).toNat < (dist2 c p).toNat - isqrt (dist2 c p).toNat * isqrt (dist2 c p).toNat
        then (isqrt (dist2 c p).toNat : Int) + 1 else isqrt (dist2 c p).toNat) := by
  simp only [circleRadius, clampInt, Config.worldMax]
  split_ifs <;> omega

/-- A square of an odd number is no multiple of 4, so no root lies halfway between two integers (R20). -/
theorem odd_square_ne (s d : Nat) : (2 * s + 1) * (2 * s + 1) ≠ 4 * d := by
  have : (2 * s + 1) * (2 * s + 1) = 4 * (s * s + s) + 1 := by ring
  omega

end Sys2Proof.Machine

namespace Sys2Proof.Claims

open Sys2Proof.Machine

/-- Settles O43: round half up is the division's own bounds; round half away follows by its symmetry about zero, and the
radius from the bits of the square root. -/
theorem roundingGoesToTheNearest : Obligations.RoundingGoesToTheNearest := by
  refine ⟨fun n d hd => ⟨roundHalfAway_neg n d hd, roundHalfAway_of_nonneg n d, roundHalfAway_near n d hd,
    roundHalfAway_tie n d hd⟩, fun c p hc hp => ?_, fun _ _ => rfl, fun x pitch origin => ⟨fun h => if_pos h, fun h => ?_⟩⟩
  · obtain ⟨low, high⟩ := isqrt_spec _ (dist2_lt c p hc hp)
    refine ⟨isqrt (dist2 c p).toNat, low, high, circleRadius_eq c p, odd_square_ne _ _, ?_⟩
    rintro rfl
    simp only [circleRadius, dist2, sub_self]
    rfl
  · refine ⟨roundHalfUp (x - origin) pitch, if_neg (by omega), ?_⟩
    have := roundHalfUp_near (x - origin) pitch h
    omega

end Sys2Proof.Claims

/-! ## The tablet mapping and the points derived from a segment (R7 to R9, R15, R17) -/

namespace Sys2Proof.Machine

/-- The subunit coordinate is on the display (R7). -/
theorem calibrate_calibrated (f t0 g size : Int) (h : 1 ≤ size) :
    Claims.Calibrated ((f - t0) * g) size (calibrate f t0 g size) := by
  simp only [Claims.Calibrated, calibrate, clampInt]
  generalize (f - t0) * g = product
  split_ifs <;> omega

/-- The view mapping never falls below a view origin in the world range (R9). -/
theorem le_viewMap (o s scale : Int) (ho : inWorld o = true) (hs : 0 ≤ s) (hscale : 0 ≤ scale) :
    o ≤ viewMap o s scale := by
  have : 0 ≤ s * scale := mul_nonneg hs hscale
  rw [inWorld_iff] at ho
  simp only [viewMap, sat_eq]
  omega

/-- The cursor point lies in the world range (R6, R9). -/
@[simp] theorem cursorPoint_inWorld (st : Settings) (v : View) (f : TabletPoint) :
    (cursorPoint st v f).inWorld = true := satPoint_inWorld _ _

/-- R17 by the place of the foot t/L on the segment: A or B beyond the ends, the rounded offsets between them. -/
theorem nearestOnSegment_cases (a b p : Point) :
    let dx := b.x - a.x
    let dy := b.y - a.y
    let l := dx * dx + dy * dy
    let t := (p.x - a.x) * dx + (p.y - a.y) * dy
    (t ≤ 0 → nearestOnSegment a b p = a) ∧ (0 < t → l ≤ t → nearestOnSegment a b p = b) ∧
    (0 < t → t < l → nearestOnSegment a b p = ⟨a.x + roundHalfAway (t * dx) l, a.y + roundHalfAway (t * dy) l⟩) := by
  intro dx dy l t
  have nonneg : 0 ≤ l := add_nonneg (mul_self_nonneg dx) (mul_self_nonneg dy)
  have flat : l = 0 → t = 0 := by
    intro h
    have hx : dx = 0 := mul_self_eq_zero.1 (by linarith [mul_self_nonneg dx, mul_self_nonneg dy])
    have hy : dy = 0 := mul_self_eq_zero.1 (by linarith [mul_self_nonneg dx, mul_self_nonneg dy])
    simp only [t, hx, hy, mul_zero, add_zero]
  have unfolded : nearestOnSegment a b p = if l = 0 then a else if t ≤ 0 then a else if l ≤ t then b
      else ⟨a.x + roundHalfAway (t * dx) l, a.y + roundHalfAway (t * dy) l⟩ := rfl
  rw [unfolded]
  refine ⟨fun h => ?_, fun h k => ?_, fun h k => ?_⟩
  · rw [if_pos h, ite_self]
  · rw [if_neg (fun e => by have := flat e; omega), if_neg (by omega), if_pos k]
  · rw [if_neg (by omega), if_neg (by omega), if_neg (by omega)]

/-- The nearest point lies within the box of the segment's ends (R17). -/
theorem nearestOnSegment_within (a b p : Point) :
    min a.x b.x ≤ (nearestOnSegment a b p).x ∧ (nearestOnSegment a b p).x ≤ max a.x b.x ∧
      min a.y b.y ≤ (nearestOnSegment a b p).y ∧ (nearestOnSegment a b p).y ≤ max a.y b.y := by
  obtain ⟨before, beyond, between⟩ := nearestOnSegment_cases a b p
  generalize (b.x - a.x) * (b.x - a.x) + (b.y - a.y) * (b.y - a.y) = l at *
  generalize (p.x - a.x) * (b.x - a.x) + (p.y - a.y) * (b.y - a.y) = t at *
  rcases le_or_gt t 0 with h | h
  · rw [before h]
    omega
  · rcases le_or_gt l t with k | k
    · rw [beyond h k]
      omega
    · rw [between h k]
      have hx := roundHalfAway_part t l (b.x - a.x) h k
      have hy := roundHalfAway_part t l (b.y - a.y) h k
      dsimp only
      omega

/-- The nearest point of a segment in the world range lies there too (R1, R17). -/
theorem nearestOnSegment_inWorld (a b p : Point) (ha : a.inWorld = true) (hb : b.inWorld = true) :
    (nearestOnSegment a b p).inWorld = true := by
  have := nearestOnSegment_within a b p
  rw [Point.inWorld_iff] at *
  omega

/-- The midpoint of a segment in the world range needs no saturation (R15). -/
theorem midpoint_eq (a b : Point) (ha : a.inWorld = true) (hb : b.inWorld = true) :
    midpoint a b = ⟨(a.x + b.x + 1) / 2, (a.y + b.y + 1) / 2⟩ := by
  refine satPoint_of_inWorld ⟨(a.x + b.x + 1) / 2, (a.y + b.y + 1) / 2⟩ ?_
  rw [Point.inWorld_iff] at *
  dsimp only
  omega

/-- The product of R17 stays below 2^73 for a segment in the world range: the bound of its exact integers (R2). -/
theorem foot_product_lt (dx dy t d : Int) (hx : dx.natAbs ≤ 16777215) (hy : dy.natAbs ≤ 16777215)
    (hd : d.natAbs ≤ 16777215) (ht : 0 < t) (hl : t < dx * dx + dy * dy) : (t * d).natAbs < 2 ^ 73 := by
  have square : ∀ v : Int, v.natAbs ≤ 16777215 → v * v ≤ 16777215 * 16777215 := by
    intro v hv
    have : -16777215 ≤ v ∧ v ≤ 16777215 := by omega
    nlinarith
  have hxx := square dx hx
  have hyy := square dy hy
  have foot : t.natAbs ≤ 2 * (16777215 * 16777215) := by omega
  calc (t * d).natAbs = t.natAbs * d.natAbs := Int.natAbs_mul t d
    _ ≤ 2 * (16777215 * 16777215) * 16777215 := Nat.mul_le_mul foot hd
    _ < 2 ^ 73 := by norm_num

end Sys2Proof.Machine

namespace Sys2Proof.Claims

open Sys2Proof.Machine

/-- Settles O44, by the place of the foot on the segment. -/
theorem derivedPointsLieWithinTheSegment : Obligations.DerivedPointsLieWithinTheSegment := by
  intro a b p dx dy l t q
  obtain ⟨before, beyond, between⟩ := nearestOnSegment_cases a b p
  obtain ⟨x1, x2, y1, y2⟩ := nearestOnSegment_within a b p
  refine ⟨before, beyond, between, x1, x2, y1, y2, fun ha hb => ?_, rfl⟩
  have near := satPoint_of_inWorld q (nearestOnSegment_inWorld a b p ha hb)
  have mid := satPoint_of_inWorld (midpoint a b) (satPoint_inWorld _ _)
  have exact := midpoint_eq a b ha hb
  rw [Point.inWorld_iff] at ha hb
  have hx : dx.natAbs ≤ 16777215 := by simp only [dx]; omega
  have hy : dy.natAbs ≤ 16777215 := by simp only [dy]; omega
  refine ⟨exact, ?_, ?_, ?_, ?_, near, mid, fun h k =>
    ⟨foot_product_lt dx dy t dx hx hy hx h k, foot_product_lt dx dy t dy hx hy hy h k⟩⟩
  all_goals
    rw [exact]
    dsimp only
    omega

/-- Settles O45, from the bounds of the calibration and of the saturation on one axis. -/
theorem tabletMappingStaysOnTheDisplay : Obligations.TabletMappingStaysOnTheDisplay := by
  refine ⟨sat_eq, Point.inWorld_iff, fun st v f legal => ?_⟩
  obtain ⟨⟨hox, hoy⟩, ⟨hscale, -⟩, ⟨hwidth, -⟩, ⟨hheight, -⟩⟩ := legal
  have hx := calibrate_calibrated f.x.toNat st.originX.toNat st.gainX.toNat v.width hwidth
  have hy := calibrate_calibrated f.y.toNat st.originY.toNat st.gainY.toNat v.height hheight
  have scaled : 0 ≤ v.scale := by omega
  obtain ⟨-, -, -, sx, -⟩ := id hx
  obtain ⟨-, -, -, sy, -⟩ := id hy
  exact ⟨hx, hy, rfl, cursorPoint_inWorld st v f, le_viewMap _ _ _ hox sx scaled, le_viewMap _ _ _ hoy sy scaled⟩

end Sys2Proof.Claims

/-! ## Features, candidates and the results of a resolution (R105 to R119) -/

namespace Sys2Proof.Machine

/-- Every feature of a target is an object feature (R105). -/
theorem Shape.features_isObject (shape : Shape) (c : Point) (fp : FeaturePoint) (h : fp ∈ shape.features c) :
    fp.feature.isObject = true := by
  cases shape <;> simp only [Shape.features, List.mem_cons, List.not_mem_nil, or_false] at h
  case point => rw [h]; rfl
  case segment => rcases h with rfl | rfl | rfl | rfl <;> rfl
  case circle => rcases h with rfl | rfl | rfl | rfl | rfl <;> rfl

/-- An object feature is neither NONE nor GRID (R105, R119). -/
theorem Feature.isObject_iff (f : Feature) : f.isObject = true ↔ f ≠ .none ∧ f ≠ .grid := by
  cases f <;> simp [Feature.isObject]

/-- A feature of a target of the table with its feature point, seen from a point (R105). -/
def Table.Offers (t : Table) (c : Point) (f : Feature) (index : BitVec 2) (p : Point) : Prop :=
  ∃ n g, t.target n = some g ∧ (⟨f, index, p⟩ : FeaturePoint) ∈ g.shape.features c

theorem Table.Offers.isObject {t : Table} {c : Point} {f : Feature} {index : BitVec 2} {p : Point}
    (h : t.Offers c f index p) : f.isObject = true := by
  obtain ⟨-, g, -, mem⟩ := h
  exact g.shape.features_isObject c _ mem

/-- A candidate is a feature of a target of the table (R107). -/
theorem candidates_offered (t : Table) (c : Point) (radius : Int) (tagOk : Half → Bool) (on : Feature → Bool)
    (k : Candidate) (h : k ∈ candidates t c radius tagOk on) :
    t.Offers c k.ref.feature k.ref.index k.point := by
  obtain ⟨n, -, hn⟩ := List.mem_flatMap.1 h
  unfold slotCandidates at hn
  split at hn
  · cases hn
  · rename_i g hg
    split at hn
    · obtain ⟨fp, hfp, rfl⟩ := List.mem_map.1 hn
      exact ⟨n, g, hg, (List.mem_filter.1 hfp).1⟩
    · cases hn

/-- A handle that is not stale names the target in its slot (R56). -/
theorem Table.target_of_named (t : Table) (h : Handle) (g : Target) (k : t.named h = some g) :
    t.target h.slot = some g := by
  unfold Table.named at k
  split at k
  · exact k
  · cases k

/-- The feature point of a feature of a target is found among its features (R105, R111). -/
theorem Shape.featureAt_mem (shape : Shape) (f : Feature) (index : BitVec 2) (c p : Point)
    (h : shape.featureAt f index c = some p) : (⟨f, index, p⟩ : FeaturePoint) ∈ shape.features c := by
  obtain ⟨fp, found, rfl⟩ := Option.map_eq_some_iff.1 h
  have same := List.find?_some found
  simp only [Bool.and_eq_true, beq_iff_eq] at same
  obtain ⟨rfl, rfl⟩ := same
  exact List.mem_of_find?_eq_some found

/-- A valid capture is a feature of a target of the table (R111). -/
theorem validCapture_offered (i : ResolutionInputs) (t : Table) (ref : FeatureRef) (p : Point)
    (h : validCapture i t = some (ref, p)) : t.Offers i.c ref.feature ref.index p := by
  unfold validCapture at h
  split at h
  · cases h
  · split at h
    · cases h
    · rename_i ref' _ g named
      split at h
      · cases h
      · rename_i q at_q
        split at h
        · cases h
          exact ⟨_, g, t.target_of_named _ g named, g.shape.featureAt_mem _ _ _ _ at_q⟩
        · cases h

/-- Object snap yields a feature of a target of the table, unconstrained (R112, R119). -/
theorem objectSnap_offered (i : ResolutionInputs) (t : Table) (r : Resolution) (h : objectSnap i t = some r) :
    ∃ ref p captured, r = objectResult ref p captured ∧ t.Offers i.c ref.feature ref.index p := by
  have best : ∀ b, resolutionBest i t = some b → t.Offers i.c b.ref.feature b.ref.index b.point := by
    intro b hb
    unfold resolutionBest at hb
    exact candidates_offered _ _ _ _ _ b (bestCandidate_mem _ b hb)
  unfold objectSnap at h
  split at h
  · rename_i ref p valid _
    cases h
    exact ⟨ref, p, _, rfl, validCapture_offered i t ref p valid⟩
  · rename_i ref p b valid hb
    split at h <;> cases h
    · exact ⟨b.ref, b.point, _, rfl, best b hb⟩
    · exact ⟨ref, p, _, rfl, validCapture_offered i t ref p valid⟩
  · rename_i b _ hb
    cases h
    exact ⟨b.ref, b.point, _, rfl, best b hb⟩
  · cases h

/-- A resolution yields a feature by object snap in NORMAL, or the result without an object feature (R102). -/
theorem resolve_cases (i : ResolutionInputs) (t : Table) :
    (i.mode = .normal ∧ ∃ ref p captured, resolve i t = objectResult ref p captured ∧
        t.Offers i.c ref.feature ref.index p) ∨
      resolve i t = freeResult i := by
  unfold resolve
  split
  · rename_i normal
    cases snap : objectSnap i t with
    | none => exact .inr rfl
    | some r => exact .inl ⟨normal, objectSnap_offered i t r snap⟩
  · exact .inr rfl

/-! ## The angle constraint (R18, R19) -/

/-- The ORTHO constraint by the greater offset (R18). -/
theorem constrainOrtho_cases (a c : Point) (h : c ≠ a) :
    ((c.y - a.y).natAbs ≤ (c.x - a.x).natAbs → constrainOrtho a c = (⟨c.x, a.y⟩, .horizontal)) ∧
      ((c.x - a.x).natAbs < (c.y - a.y).natAbs → constrainOrtho a c = (⟨a.x, c.y⟩, .vertical)) := by
  refine ⟨fun k => ?_, fun k => ?_⟩
  · rw [constrainOrtho, if_neg h, if_pos k]
  · rw [constrainOrtho, if_neg h, if_neg (not_le.2 k)]

/-- The product of a nonzero offset's sign and a length. -/
theorem sign_mul_eq (d m : Int) (h : d ≠ 0) : d.sign * m = if 0 < d then m else -m := by
  split
  · rename_i pos
    rw [Int.sign_eq_one_of_pos pos, one_mul]
  · rw [Int.sign_eq_neg_one_of_neg (by omega), neg_one_mul]

/-- The OCTO constraint by the octant, with the boundaries of R19 at 53/128. -/
theorem constrainOcto_cases (a c : Point) (h : c ≠ a) :
    let dx := c.x - a.x
    let dy := c.y - a.y
    let m : Int := (dx.natAbs + dy.natAbs + 1) / 2
    (128 * dy.natAbs ≤ 53 * dx.natAbs → constrainOcto a c = (⟨c.x, a.y⟩, .horizontal)) ∧
      (128 * dx.natAbs ≤ 53 * dy.natAbs → constrainOcto a c = (⟨a.x, c.y⟩, .vertical)) ∧
      (53 * dx.natAbs < 128 * dy.natAbs → 53 * dy.natAbs < 128 * dx.natAbs → constrainOcto a c =
        (⟨sat (a.x + if 0 < dx then m else -m), sat (a.y + if 0 < dy then m else -m)⟩, .diagonal)) := by
  intro dx dy m
  have moved : dx ≠ 0 ∨ dy ≠ 0 := by
    by_contra! still
    obtain ⟨hx, hy⟩ := still
    exact h (by cases a; cases c; simp only [dx, dy] at hx hy; congr 1 <;> omega)
  have unfolded : constrainOcto a c = if c = a then (c, .none)
      else if 128 * dy.natAbs ≤ 53 * dx.natAbs then (⟨c.x, a.y⟩, .horizontal)
      else if 128 * dx.natAbs ≤ 53 * dy.natAbs then (⟨a.x, c.y⟩, .vertical)
      else (satPoint (a.x + dx.sign * m) (a.y + dy.sign * m), .diagonal) := by
    simp only [m, constrainOcto]
    push_cast
    rfl
  rw [unfolded, if_neg h]
  refine ⟨fun k => if_pos k, fun k => ?_, fun k1 k2 => ?_⟩
  · rw [if_neg (by omega), if_pos k]
  · rw [if_neg (by omega), if_neg (by omega), sign_mul_eq dx m (by omega), sign_mul_eq dy m (by omega)]
    rfl

/-! ## Constraint and grid of a result without an object feature (R116 to R118) -/

theorem Direction.freesX_iff (d : Direction) : d.freesX = true ↔ d = .none ∨ d = .horizontal := by
  cases d <;> simp [Direction.freesX]

theorem Direction.freesY_iff (d : Direction) : d.freesY = true ↔ d = .none ∨ d = .vertical := by
  cases d <;> simp [Direction.freesY]

/-- The grid acts on an axis: GRID is on, the pitch is not 0, and the direction leaves the axis free (R117). -/
def gridActs (st : Settings) (pitch : Half) (free : Bool) : Bool := featureOn st.enables .grid && free && pitch != 0

theorem gridActs_iff (st : Settings) (pitch : Half) (free : Bool) :
    gridActs st pitch free = true ↔ st.enables.getLsbD 6 = true ∧ pitch ≠ 0 ∧ free = true := by
  simp only [gridActs, featureOn, Feature.enableBit, Bool.and_eq_true, bne_iff_ne]
  tauto

/-- The result without an object feature in terms of the constraint step (R116 to R119). -/
theorem freeResult_eq (i : ResolutionInputs) :
    let q := constraintStep i
    let st := i.settings
    let gx := gridActs st st.pitchX q.2.freesX
    let gy := gridActs st st.pitchY q.2.freesY
    freeResult i =
      ⟨⟨if gx then gridAxis q.1.x st.pitchX.toNat st.gridX.toInt else q.1.x,
          if gy then gridAxis q.1.y st.pitchY.toNat st.gridY.toInt else q.1.y⟩,
        if gx || gy then .grid else .none, none, 0, false, q.1 != i.c⟩ := rfl

/-- A capture is made of the object feature of a result alone (R113). -/
theorem captureOf_objectResult (ref : FeatureRef) (p : Point) (captured : Bool) (h : ref.feature.isObject = true) :
    captureOf (objectResult ref p captured) = some ⟨ref.handle, ref.feature, ref.index⟩ := by
  simp [captureOf, objectResult, h]

end Sys2Proof.Machine

namespace Sys2Proof.Claims

open Sys2Proof.Machine

/-- Settles O42: a result is one of object snap, or the one of constraint and grid. -/
theorem resolutionResultIsConsistent : Obligations.ResolutionResultIsConsistent := by
  refine ⟨fun a c => ⟨rfl, fun h => ?_, fun h => ?_⟩, fun st => ⟨fun h => ?_, fun h => ?_, fun h => ?_⟩, fun i t => ?_⟩
  · exact ⟨if_pos h, if_pos h⟩
  · obtain ⟨level, upright⟩ := constrainOrtho_cases a c h
    exact ⟨level, upright, constrainOcto_cases a c h⟩
  · rw [Settings.constraintMode, h]
    rfl
  · rw [Settings.constraintMode, h]
    rfl
  · rw [Settings.constraintMode, h]
    rfl
  · rcases resolve_cases i t with ⟨normal, ref, p, captured, result, offered⟩ | result
    · have isObject := offered.isObject
      obtain ⟨notNone, notGrid⟩ := ref.feature.isObject_iff.1 isObject
      simp only [result, captureOf_objectResult ref p captured isObject]
      simp [objectResult, normal, notNone, notGrid]
    · intro r
      have free : r = _ := result.trans (freeResult_eq i)
      clear_value r
      subst free
      refine ⟨fun h => absurd h Bool.false_ne_true, ?_, fun _ => ⟨rfl, rfl⟩, fun _ => ⟨rfl, rfl⟩,
        fun h k => absurd k.symm (Option.some_ne_none h), fun _ => rfl, fun _ => ?_⟩
      · dsimp only
        split <;> simp
      · intro q
        have step : q = constraintStep i := by
          simp only [q, constraintStep]
          cases i.mode <;> cases i.anchor <;> rfl
        clear_value q
        subst step
        simp only [← Direction.freesX_iff, ← Direction.freesY_iff, ← gridActs_iff]
        refine ⟨bne_iff_ne, fun h => if_pos h, fun h => if_neg h, fun h => if_pos h, fun h => if_neg h, ?_⟩
        rw [← Bool.or_eq_true]
        split <;> simp_all

end Sys2Proof.Claims

/-! ## Bins, wide list and references under entering and leaving (R59, R60, R63) -/

namespace Sys2Proof.Machine

/-- An edited bin is the edit of what it was; a bin not named keeps its slots. -/
theorem editBins_get (f : List SlotNo → List SlotNo) (numbers : List BinNo) (nodup : numbers.Nodup)
    (bins : Vector (List SlotNo) 256) (b : BinNo) :
    (editBins f numbers bins)[b] = if b ∈ numbers then f bins[b] else bins[b] := by
  induction numbers generalizing bins with
  | nil => rfl
  | cons a rest ih =>
    obtain ⟨fresh, nodup⟩ := List.nodup_cons.1 nodup
    have first : (bins.set a.val (f bins[a.val]) a.isLt)[b] = if b = a then f bins[b] else bins[b] := by
      by_cases e : b = a
      · subst e
        simp
      · have : a.val ≠ b.val := fun k => e (Fin.ext k.symm)
        simp [e, this]
    rw [show editBins f (a :: rest) bins = editBins f rest (bins.set a.val (f bins[a.val]) a.isLt) from rfl,
      ih nodup, first]
    by_cases e : b = a
    · subst e
      simp [fresh]
    · simp [e]

/-- The bins a placement names, each once. -/
def Placement.Once (p : Placement) : Prop := ∀ l, p = .bins l → l.Nodup

theorem Table.binsOf_nodup (t : Table) (b : Box) : (t.binsOf b).Nodup := (List.nodup_finRange 256).filter _

/-- The bins after a slot was entered by a placement that names each bin once (R59). -/
theorem Table.enter_bins (t : Table) (n : SlotNo) (p : Placement) (once : p.Once) (b : BinNo) :
    (t.enter n p).bins[b] = match p with
      | .bins l => if b ∈ l then insertSlot n t.bins[b] else t.bins[b]
      | .wide => t.bins[b] := by
  cases p with
  | bins l => exact editBins_get _ l (once l rfl) _ b
  | wide => rfl

/-- The bins after a slot left those of a placement that names each bin once (R63). -/
theorem Table.leave_bins (t : Table) (n : SlotNo) (p : Placement) (once : p.Once) (b : BinNo) :
    (t.leave n p).bins[b] = match p with
      | .bins l => if b ∈ l then removeSlot n t.bins[b] else t.bins[b]
      | .wide => t.bins[b] := by
  cases p with
  | bins l => exact editBins_get _ l (once l rfl) _ b
  | wide => rfl

/-- A slot entered by a placement stands in the bins it names (R59). -/
theorem Table.enter_binHas (t : Table) (n m : SlotNo) (p : Placement) (once : p.Once) (b : BinNo) :
    (t.enter n p).binHas b m ↔ t.binHas b m ∨ m = n ∧ ∃ l, p = .bins l ∧ b ∈ l := by
  unfold Table.binHas
  rw [t.enter_bins n p once b]
  cases p with
  | wide => simp
  | bins l =>
    by_cases h : b ∈ l
    · simp [h, mem_insertSlot, or_comm]
    · simp [h]

/-- A slot that left the bins of a placement stands in none of them (R63). -/
theorem Table.leave_binHas (t : Table) (n m : SlotNo) (p : Placement) (once : p.Once) (b : BinNo) :
    (t.leave n p).binHas b m ↔ t.binHas b m ∧ ¬ (m = n ∧ ∃ l, p = .bins l ∧ b ∈ l) := by
  unfold Table.binHas
  rw [t.leave_bins n p once b]
  cases p with
  | wide => simp
  | bins l =>
    by_cases h : b ∈ l
    · simp [h, mem_removeSlot]
    · simp [h]

theorem Table.enter_mem_wide (t : Table) (n m : SlotNo) (p : Placement) :
    m ∈ (t.enter n p).wide ↔ m ∈ t.wide ∨ m = n ∧ p = .wide := by
  cases p with
  | wide => simp [Table.enter, mem_insertSlot, or_comm]
  | bins l => simp [Table.enter]

theorem Table.leave_mem_wide (t : Table) (n m : SlotNo) (p : Placement) :
    m ∈ (t.leave n p).wide ↔ m ∈ t.wide ∧ ¬ (m = n ∧ p = .wide) := by
  cases p with
  | wide => simp [Table.leave, mem_removeSlot]
  | bins l => simp [Table.leave]

/-- Entering keeps the bins in ascending order. -/
theorem Table.enter_binsSorted (t : Table) (n : SlotNo) (p : Placement) (once : p.Once) (b : BinNo)
    (h : (t.bins[b]).Pairwise (· < ·)) : ((t.enter n p).bins[b]).Pairwise (· < ·) := by
  rw [t.enter_bins n p once b]
  cases p with
  | wide => exact h
  | bins l =>
    dsimp only
    split
    · exact insertSlot_sorted n _ h
    · exact h

/-- Leaving keeps the bins in ascending order. -/
theorem Table.leave_binsSorted (t : Table) (n : SlotNo) (p : Placement) (once : p.Once) (b : BinNo)
    (h : (t.bins[b]).Pairwise (· < ·)) : ((t.leave n p).bins[b]).Pairwise (· < ·) := by
  rw [t.leave_bins n p once b]
  cases p with
  | wide => exact h
  | bins l =>
    dsimp only
    split
    · exact removeSlot_sorted n _ h
    · exact h

theorem Table.enter_wideSorted (t : Table) (n : SlotNo) (p : Placement) (h : t.wide.Pairwise (· < ·)) :
    (t.enter n p).wide.Pairwise (· < ·) := by
  cases p with
  | wide => exact insertSlot_sorted n _ h
  | bins l => exact h

theorem Table.leave_wideSorted (t : Table) (n : SlotNo) (p : Placement) (h : t.wide.Pairwise (· < ·)) :
    (t.leave n p).wide.Pairwise (· < ·) := by
  cases p with
  | wide => exact removeSlot_sorted n _ h
  | bins l => exact h

/-! ## The number of references (R59) -/

theorem insertSlot_length (n : SlotNo) (l : List SlotNo) (h : n ∉ l) : (insertSlot n l).length = l.length + 1 := by
  induction l with
  | nil => rfl
  | cons m rest ih =>
    obtain ⟨apart, absent⟩ := not_or.1 (List.mem_cons.not.1 h)
    unfold insertSlot
    split
    · rfl
    · rw [List.length_cons, ih absent, List.length_cons]

theorem removeSlot_length (n : SlotNo) (l : List SlotNo) (nodup : l.Nodup) (h : n ∈ l) :
    l.length = (removeSlot n l).length + 1 := by
  have erased : removeSlot n l = l.erase n := by
    rw [nodup.erase_eq_filter]
    exact List.filter_congr fun m _ => by rw [Bool.eq_iff_iff, decide_eq_true_iff, bne_iff_ne]
  rw [erased, List.length_erase_add_one h]

theorem removeSlot_length_le (n : SlotNo) (l : List SlotNo) : (removeSlot n l).length ≤ l.length :=
  List.length_filter_le _ _

/-- The references in use, counted bin by bin. -/
theorem Table.refsUsed_eq (t : Table) : t.refsUsed = ∑ b : BinNo, (t.bins[b]).length := by
  have : t.bins.toList.map List.length = (List.finRange 256).map fun b : BinNo => (t.bins[b]).length := by
    apply List.ext_getElem
    · simp
    · intro i h1 h2
      simp
  rw [Table.refsUsed, this, ← Fin.sum_univ_def]

/-- When each bin of a list holds one slot more, the references in use are more by the list's length. -/
theorem Table.refsUsed_of_step (t u : Table) (l : List BinNo) (nodup : l.Nodup)
    (step : ∀ b : BinNo, (u.bins[b]).length = (t.bins[b]).length + if b ∈ l then 1 else 0) :
    u.refsUsed = t.refsUsed + l.length := by
  have count : (∑ b : BinNo, if b ∈ l then 1 else 0) = l.length := by
    rw [Finset.sum_boole, Nat.cast_id, ← List.toFinset_card_of_nodup nodup]
    congr 1
    ext b
    simp
  rw [u.refsUsed_eq, t.refsUsed_eq, Finset.sum_congr rfl fun b _ => step b, Finset.sum_add_distrib, count]

/-- Entering a slot that stands in no bin takes as many references as its placement names bins (R59). -/
theorem Table.enter_refs (t : Table) (n : SlotNo) (p : Placement) (once : p.Once) (absent : ∀ b, ¬ t.binHas b n)
    (room : ∀ l, p = .bins l → l.length ≤ t.freeRefs) :
    (t.enter n p).refsUsed + (t.enter n p).freeRefs = t.refsUsed + t.freeRefs := by
  cases p with
  | wide => rfl
  | bins l =>
    have grown := t.refsUsed_of_step (t.enter n (.bins l)) l (once l rfl) fun b => by
      rw [t.enter_bins n _ once b]
      dsimp only
      split
      · exact insertSlot_length n _ (absent b)
      · rfl
    have := room l rfl
    rw [grown, show (t.enter n (.bins l)).freeRefs = t.freeRefs - l.length from rfl]
    omega

/-- A slot that leaves the bins it stands in returns its references (R63). -/
theorem Table.leave_refs (t : Table) (n : SlotNo) (p : Placement) (once : p.Once)
    (sorted : ∀ b : BinNo, (t.bins[b]).Pairwise (· < ·)) (present : ∀ l, p = .bins l → ∀ b ∈ l, t.binHas b n) :
    (t.leave n p).refsUsed + (t.leave n p).freeRefs = t.refsUsed + t.freeRefs := by
  cases p with
  | wide => rfl
  | bins l =>
    have shrunk := (t.leave n (.bins l)).refsUsed_of_step t l (once l rfl) fun b => by
      rw [t.leave_bins n _ once b]
      dsimp only
      split
      · rename_i h
        exact removeSlot_length n _ ((sorted b).imp ne_of_lt) (present l rfl b h)
      · rfl
    rw [shrunk, show (t.leave n (.bins l)).freeRefs = t.freeRefs + l.length from rfl]
    omega

end Sys2Proof.Machine

/-! ## The table's law in its two halves (R58 to R60, R70) -/

namespace Sys2Proof.Machine

/-- The half of the table's law about bins, wide list and references (R58 to R60). -/
structure Table.EntryLaw (t : Table) : Prop where
  bins : ∀ b n, t.binHas b n ↔ ∃ g l, t.target n = some g ∧ g.placement = .bins l ∧ b ∈ l
  wide : ∀ n, n ∈ t.wide ↔ ∃ g, t.target n = some g ∧ g.placement = .wide
  placed : ∀ n g l, t.target n = some g → g.placement = .bins l →
    t.boxInside g.shape.box = true ∧ l = t.binsOf g.shape.box ∧ l.length ≤ Config.maxBinsPerTarget
  refs : t.refsUsed + t.freeRefs = Config.poolSize
  wideCap : t.wide.length ≤ Config.wideCap
  binsSorted : ∀ b : BinNo, (t.bins[b]).Pairwise (· < ·)
  wideSorted : t.wide.Pairwise (· < ·)

/-- The half of the table's law about the learned list (R70). -/
structure Table.LearnedLaw (t : Table) (cap : Nat) : Prop where
  learned : ∀ n, n ∈ t.learned ↔ ∃ g, t.target n = some g ∧ g.origin = .learned
  once : t.learned.Nodup
  apart : ∀ m n, m ∈ t.learned → n ∈ t.learned → (t.target m).map Target.shape = (t.target n).map Target.shape →
    m = n
  point : ∀ n g, t.target n = some g → g.origin = .learned → ∃ p, g.shape = .point p
  cap : t.learned.length ≤ cap

theorem Table.law_iff (t : Table) (cap : Nat) :
    t.Law cap ↔ t.EntryLaw ∧ t.LearnedLaw cap ∧ 4 ≤ t.k ∧ t.k ≤ 19 :=
  ⟨fun h => ⟨⟨h.bins, h.wide, h.placed, h.refs, h.wideCap, h.binsSorted, h.wideSorted⟩,
      ⟨h.learned, h.learnedOnce, h.learnedApart, h.learnedPoint, h.learnedCap⟩, h.window⟩,
    fun ⟨e, l, w⟩ => ⟨e.bins, e.wide, e.placed, e.refs, e.wideCap, e.binsSorted, e.wideSorted, l.learned, l.once,
      l.apart, l.point, l.cap, w⟩⟩

/-- A target's placement names each bin once: the bins its box overlaps (R60). -/
theorem Table.EntryLaw.once {t : Table} (h : t.EntryLaw) {n : SlotNo} {g : Target} (k : t.target n = some g) :
    g.placement.Once := by
  intro l e
  obtain ⟨-, rfl, -⟩ := h.placed n g l k e
  exact t.binsOf_nodup _

/-- A FREE slot stands in no bin (R59). -/
theorem Table.EntryLaw.absent {t : Table} (h : t.EntryLaw) {n : SlotNo} (k : t.target n = none) (b : BinNo) :
    ¬ t.binHas b n := by
  rw [h.bins, k]
  simp

/-! ### Release (R63) -/

/-- A release makes its slot FREE and leaves every other target. -/
theorem Table.release_target (t : Table) (n m : SlotNo) :
    (t.release n).target m = if m = n then none else t.target m := by
  by_cases h : t.target n = none
  · rw [t.release_free n h]
    split
    · rename_i e
      rw [e, h]
    · rfl
  · unfold Table.target
    rw [t.release_slots n m h]
    split <;> rfl

theorem Table.releaseAll_cons (t : Table) (n : SlotNo) (l : List SlotNo) :
    t.releaseAll (n :: l) = (t.release n).releaseAll l := rfl

theorem Table.releaseAll_target (l : List SlotNo) (t : Table) (m : SlotNo) :
    (t.releaseAll l).target m = if m ∈ l then none else t.target m := by
  induction l generalizing t with
  | nil => rfl
  | cons n rest ih =>
    rw [t.releaseAll_cons, ih, t.release_target]
    by_cases h : m ∈ rest <;> by_cases e : m = n <;> simp [h, e]

/-- The bins and references of a release are those that the leaving of its placement gives. -/
theorem Table.release_entries (t : Table) (n : SlotNo) (g : Target) (k : t.target n = some g) :
    (t.release n).bins = (t.leave n g.placement).bins ∧ (t.release n).wide = (t.leave n g.placement).wide ∧
      (t.release n).freeRefs = (t.leave n g.placement).freeRefs := by
  rw [t.release_eq n g k]
  exact ⟨rfl, rfl, rfl⟩

/-- The part of a table that tells where a box would be placed: the window (R58, R60). -/
theorem Table.boxInside_binsOf_congr {t u : Table} (x : u.originX = t.originX) (y : u.originY = t.originY)
    (k : u.k = t.k) (b : Box) : u.boxInside b = t.boxInside b ∧ u.binsOf b = t.binsOf b := by
  unfold Table.boxInside Table.binsOf Table.columns Table.rows
  rw [x, y, k]
  exact ⟨rfl, rfl⟩

/-- A release keeps bins, wide list and references lawful: exactly the released slot leaves (R59, R63). -/
theorem Table.EntryLaw.release {t : Table} (h : t.EntryLaw) (n : SlotNo) : (t.release n).EntryLaw := by
  cases k : t.target n with
  | none => rwa [t.release_free n k]
  | some g =>
    have once := h.once k
    have target := t.release_target n
    obtain ⟨bins, wide, freeRefs⟩ := t.release_entries n g k
    obtain ⟨x, y, e, -⟩ := t.release_window n
    have place := fun b => Table.boxInside_binsOf_congr x y e b
    refine ⟨fun b m => ?_, fun m => ?_, fun m g' l hg' => ?_, ?_, ?_, fun b => ?_, ?_⟩
    · rw [Table.binHas, bins, ← Table.binHas, t.leave_binHas n m _ once b, h.bins, target]
      by_cases e : m = n
      · subst e
        simp [k]
      · simp [e]
    · rw [wide, t.leave_mem_wide, h.wide, target]
      by_cases e : m = n
      · subst e
        simp [k]
      · simp [e]
    · rw [target] at hg'
      split at hg'
      · cases hg'
      · rw [(place _).1, (place _).2]
        exact h.placed m g' l hg'
    · have kept := t.leave_refs n g.placement once h.binsSorted fun l e b hb => (h.bins b n).2 ⟨g, l, k, e, hb⟩
      rw [Table.refsUsed, bins, freeRefs, ← Table.refsUsed, kept, h.refs]
    · rw [wide]
      cases g.placement with
      | bins l => exact h.wideCap
      | wide => exact (removeSlot_length_le n _).trans h.wideCap
    · rw [bins]
      exact t.leave_binsSorted n _ once b (h.binsSorted b)
    · rw [wide]
      exact t.leave_wideSorted n _ h.wideSorted

/-- Under the law a release takes its slot out of the learned list, and nothing else (R63, R70). -/
theorem Table.LearnedLaw.release_learned {t : Table} {cap : Nat} (h : t.LearnedLaw cap) (n : SlotNo) :
    (t.release n).learned = removeSlot n t.learned := by
  have kept : n ∉ t.learned → removeSlot n t.learned = t.learned := fun absent =>
    List.filter_eq_self.2 fun m hm => decide_eq_true fun e => absent (e ▸ hm)
  cases k : t.target n with
  | none =>
    rw [t.release_free n k, kept]
    rw [h.learned, k]
    simp
  | some g =>
    rw [t.release_eq n g k]
    dsimp only
    split
    · rfl
    · rename_i other
      refine (kept fun mem => ?_).symm
      obtain ⟨g', hg', origin⟩ := (h.learned n).1 mem
      rw [k] at hg'
      cases hg'
      exact other origin

/-- A release keeps the learned list lawful, whatever cap its length meets (R63, R70). -/
theorem Table.LearnedLaw.release {t : Table} {cap : Nat} (h : t.LearnedLaw cap) (n : SlotNo) {cap' : Nat}
    (short : (removeSlot n t.learned).length ≤ cap') : (t.release n).LearnedLaw cap' := by
  have target := t.release_target n
  have list := h.release_learned n
  refine ⟨fun m => ?_, ?_, fun m m' hm hm' same => ?_, fun m g hg => ?_, ?_⟩
  · rw [list, mem_removeSlot, h.learned, target]
    by_cases e : m = n <;> simp [e]
  · rw [list]
    exact h.once.filter _
  · rw [list, mem_removeSlot] at hm hm'
    rw [target, target, if_neg hm.2, if_neg hm'.2] at same
    exact h.apart m m' hm.1 hm'.1 same
  · rw [target] at hg
    split at hg
    · cases hg
    · exact h.point m g hg
  · rwa [list]

/-- A release keeps the law (R63). -/
theorem Table.Law.release {t : Table} {cap : Nat} (h : t.Law cap) (n : SlotNo) : (t.release n).Law cap := by
  rw [Table.law_iff] at *
  obtain ⟨entries, list, window⟩ := h
  refine ⟨entries.release n, list.release n ((removeSlot_length_le n _).trans list.cap), ?_⟩
  rwa [(t.release_window n).2.2.1]

/-- The release of several slots keeps the law. -/
theorem Table.Law.releaseAll {cap : Nat} (l : List SlotNo) {t : Table} (h : t.Law cap) : (t.releaseAll l).Law cap := by
  induction l generalizing t with
  | nil => exact h
  | cons n rest ih => exact ih (h.release n)

/-- The generation is no part of the law. -/
theorem Table.Law.advance {t : Table} {cap : Nat} (h : t.Law cap) : t.advance.Law cap :=
  ⟨h.bins, h.wide, h.placed, h.refs, h.wideCap, h.binsSorted, h.wideSorted, h.learned, h.learnedOnce, h.learnedApart,
    h.learnedPoint, h.learnedCap, h.window⟩

theorem Table.Law.drop {t : Table} {cap : Nat} (h : t.Law cap) (l : List SlotNo) : (t.drop l).Law cap := by
  unfold Table.drop
  split
  · exact h
  · exact (h.releaseAll l).advance

end Sys2Proof.Machine

/-! ## Entry, table ops, learning and trim under the table's law (R57, R64 to R73) -/

namespace Sys2Proof.Machine

/-! ### Entry of a target (R57, R60, R64, R72) -/

/-- A target is written into a slot and entered by its placement; a LEARNED one becomes the newest learned entry (R64,
R72). -/
def Table.enlist (t : Table) (n : SlotNo) (g : Target) : Table :=
  { t.take n g with learned := t.learned ++ if g.origin = .learned then [n] else [] }

/-- An APPLICATION target leaves the learned list as it is. -/
theorem Table.enlist_application (t : Table) (n : SlotNo) (g : Target) (h : g.origin = .application) :
    t.enlist n g = t.take n g := by
  unfold Table.enlist
  rw [if_neg (by simp [h]), List.append_nil, ← (t.enter_kept n g.placement).2.1]
  rfl

/-- A LEARNED target stands at the newest end of the learned list. -/
theorem Table.enlist_learned (t : Table) (n : SlotNo) (g : Target) (h : g.origin = .learned) :
    t.enlist n g = { t.take n g with learned := (t.take n g).learned ++ [n] } := by
  unfold Table.enlist
  rw [if_pos h, ← (t.enter_kept n g.placement).2.1]
  rfl

theorem Table.enlist_target (t : Table) (n m : SlotNo) (g : Target) :
    (t.enlist n g).target m = if m = n then some g else t.target m := by
  show ((t.take n g).slots[m]).target = _
  rw [t.take_slots]
  split <;> rfl

/-- Entry keeps the window. -/
theorem Table.enlist_window (t : Table) (n : SlotNo) (g : Target) :
    (t.enlist n g).originX = t.originX ∧ (t.enlist n g).originY = t.originY ∧ (t.enlist n g).k = t.k := by
  obtain ⟨-, -, x, y, k, -⟩ := t.enter_kept n g.placement
  exact ⟨x, y, k⟩

/-- The lowest FREE slot is FREE (R57). -/
theorem Table.lowestFree_target (t : Table) (n : SlotNo) (h : t.lowestFree = some n) : t.target n = none := by
  simpa [Table.isFree] using List.find?_some h

/-- Placement by the three conditions, or the wide list while it has room (R60). -/
theorem Table.place_cases (t : Table) (b : Box) (p : Placement) (h : t.place b = some p) :
    (p = .bins (t.binsOf b) ∧ t.boxInside b = true ∧ (t.binsOf b).length ≤ Config.maxBinsPerTarget ∧
        (t.binsOf b).length ≤ t.freeRefs) ∨
      (p = .wide ∧ t.wide.length < Config.wideCap) := by
  unfold Table.place at h
  dsimp only at h
  split at h
  · rename_i conditions
    cases h
    exact .inl ⟨rfl, conditions⟩
  · split at h
    · rename_i room
      cases h
      exact .inr ⟨rfl, room⟩
    · cases h

/-- Entry by a placement keeps bins, wide list and references lawful: exactly the new slot joins (R59, R60). -/
theorem Table.EntryLaw.enlist {t : Table} (h : t.EntryLaw) (n : SlotNo) (g : Target) (free : t.target n = none)
    (place : t.place g.shape.box = some g.placement) : (t.enlist n g).EntryLaw := by
  have placed := t.place_cases _ _ place
  have once : g.placement.Once := by
    intro l e
    rcases placed with ⟨k, -⟩ | ⟨k, -⟩ <;> rw [k] at e <;> cases e
    exact t.binsOf_nodup _
  have room : ∀ l, g.placement = .bins l → l.length ≤ t.freeRefs := by
    intro l e
    rcases placed with ⟨k, -, -, room⟩ | ⟨k, -⟩ <;> rw [k] at e <;> cases e
    exact room
  have target := fun m => t.enlist_target n m g
  obtain ⟨x, y, e⟩ := t.enlist_window n g
  refine ⟨fun b m => ?_, fun m => ?_, fun m g' l hg' hl => ?_, ?_, ?_, fun b => ?_, ?_⟩
  · rw [show (t.enlist n g).binHas b m ↔ _ from t.enter_binHas n m _ once b, h.bins, target]
    by_cases e : m = n
    · subst e
      simp [free]
    · simp [e]
  · rw [show m ∈ (t.enlist n g).wide ↔ _ from t.enter_mem_wide n m g.placement, h.wide, target]
    by_cases e : m = n
    · subst e
      simp [free]
    · simp [e]
  · rw [target] at hg'
    obtain ⟨inside, binsOf⟩ := Table.boxInside_binsOf_congr x y e g'.shape.box
    rw [inside, binsOf]
    split at hg'
    · cases hg'
      rcases placed with ⟨k, inside, few, -⟩ | ⟨k, -⟩ <;> rw [k] at hl <;> cases hl
      exact ⟨inside, rfl, few⟩
    · exact h.placed m g' l hg' hl
  · exact (t.enter_refs n g.placement once (h.absent free) room).trans h.refs
  · rcases placed with ⟨k, -⟩ | ⟨k, wide⟩
    · show (t.enter n g.placement).wide.length ≤ _
      rw [k]
      exact h.wideCap
    · show (t.enter n g.placement).wide.length ≤ _
      have fresh : n ∉ t.wide := by
        rw [h.wide, free]
        simp
      rw [k, show (t.enter n .wide).wide = insertSlot n t.wide from rfl, insertSlot_length n _ fresh]
      exact wide
  · exact t.enter_binsSorted n _ once b (h.binsSorted b)
  · exact t.enter_wideSorted n _ h.wideSorted

/-- Entry of a target keeps the learned list lawful: a LEARNED one is a new POINT and finds room under the cap (R55,
R70, R72). -/
theorem Table.LearnedLaw.enlist {t : Table} {cap : Nat} (h : t.LearnedLaw cap) (n : SlotNo) (g : Target)
    (free : t.target n = none)
    (learn : g.origin = .learned → (∃ p, g.shape = .point p) ∧
      (∀ m ∈ t.learned, (t.target m).map Target.shape ≠ some g.shape) ∧ t.learned.length < cap) :
    (t.enlist n g).LearnedLaw cap := by
  have target := fun m => t.enlist_target n m g
  have absent : n ∉ t.learned := by
    rw [h.learned, free]
    simp
  have mem : ∀ m, m ∈ (t.enlist n g).learned ↔ m ∈ t.learned ∨ m = n ∧ g.origin = .learned := by
    intro m
    show m ∈ t.learned ++ (if g.origin = .learned then [n] else []) ↔ _
    split <;> simp [*]
  refine ⟨fun m => ?_, ?_, fun m m' hm hm' same => ?_, fun m g' hg' origin => ?_, ?_⟩
  · rw [mem, h.learned, target]
    by_cases e : m = n
    · subst e
      simp [free]
    · simp [e]
  · show (t.learned ++ (if g.origin = .learned then [n] else [])).Nodup
    split
    · exact h.once.append (List.nodup_singleton n) (List.disjoint_singleton.2 absent)
    · rw [List.append_nil]
      exact h.once
  · rw [mem] at hm hm'
    rw [target, target] at same
    have old : ∀ k ∈ t.learned, k ≠ n := fun k hk e => absent (e ▸ hk)
    rcases hm with hm | ⟨rfl, origin⟩ <;> rcases hm' with hm' | ⟨rfl, origin'⟩
    · rw [if_neg (old m hm), if_neg (old m' hm')] at same
      exact h.apart m m' hm hm' same
    · rw [if_neg (old m hm), if_pos rfl] at same
      exact absurd same ((learn origin').2.1 m hm)
    · rw [if_pos rfl, if_neg (old m' hm')] at same
      exact absurd same.symm ((learn origin).2.1 m' hm')
    · rfl
  · rw [target] at hg'
    split at hg'
    · cases hg'
      exact (learn origin).1
    · exact h.point m g' hg' origin
  · show (t.learned ++ (if g.origin = .learned then [n] else [])).length ≤ cap
    split
    · rename_i origin
      rw [List.length_append]
      exact (learn origin).2.2
    · rw [List.append_nil]
      exact h.cap

/-- Entry of a target in the lowest FREE slot keeps the law (R57, R60, R70). -/
theorem Table.Law.enlist {t : Table} {cap : Nat} (h : t.Law cap) (n : SlotNo) (g : Target)
    (free : t.lowestFree = some n) (place : t.place g.shape.box = some g.placement)
    (learn : g.origin = .learned → (∃ p, g.shape = .point p) ∧
      (∀ m ∈ t.learned, (t.target m).map Target.shape ≠ some g.shape) ∧ t.learned.length < cap) :
    (t.enlist n g).Law cap := by
  rw [Table.law_iff] at *
  obtain ⟨entries, list, window⟩ := h
  have free := t.lowestFree_target n free
  refine ⟨entries.enlist n g free place, list.enlist n g free learn, ?_⟩
  rwa [(t.enlist_window n g).2.2]

/-! ### The table ops of update cells (R64 to R68) -/

/-- What a table op can do to the table (R64 to R68): nothing; release slots; enter an APPLICATION target in the lowest
FREE slot; or release every slot and set the window. -/
inductive Table.OpChange (t : Table) : Table → Prop where
  | unchanged : OpChange t t
  | released (l : List SlotNo) : OpChange t (t.releaseAll l).advance
  | entered (n : SlotNo) (shape : Shape) (tag : Half) (p : Placement) (range : shape.inRange)
      (free : t.lowestFree = some n) (place : t.place shape.box = some p) :
      OpChange t (t.enlist n ⟨shape, .application, tag, p⟩).advance
  | cleared (o : Point) (k : Nat) (range : o.inWorld = true) (low : 4 ≤ k) (high : k ≤ 19) :
      OpChange t (Table.advance { t.releaseAll (allSlots.filter fun n => !t.isFree n) with
        originX := o.x, originY := o.y, k := k })

theorem Table.drop_change (t : Table) (l : List SlotNo) : t.OpChange (t.drop l) := by
  unfold Table.drop
  split
  · exact .unchanged
  · exact .released l

/-- An INSERT cell that passes its tests describes a shape in range (R55, R64). -/
theorem insertShape_inRange (c : Cell) (shape : Shape) (h : insertShape c = .ok shape) : shape.inRange := by
  unfold insertShape at h
  split at h
  case h_4 => cases h
  all_goals
    split at h <;> cases h
    rename_i tests
  · exact tests
  · exact Bool.and_eq_true_iff.1 tests
  · simp only [Bool.and_eq_true, decide_eq_true_eq] at tests
    obtain ⟨⟨center, nonneg⟩, le⟩ := tests
    exact ⟨center, by rwa [Int.toNat_of_nonneg nonneg]⟩

theorem Table.insert_change (t : Table) (c : Cell) : t.OpChange (t.insert c).table := by
  unfold Table.insert
  split
  · exact .unchanged
  · rename_i shape hshape
    split
    · exact .unchanged
    · rename_i n free
      split
      · exact .unchanged
      · rename_i p place
        dsimp only
        rw [← t.enlist_application n _ rfl]
        exact .entered n shape c.tag p (insertShape_inRange c shape hshape) free place

theorem Table.delete_change (t : Table) (c : Cell) : t.OpChange (t.delete c).table := by
  unfold Table.delete
  split
  · exact .unchanged
  · split
    · exact .unchanged
    · rename_i h _ _ _ _
      exact .released [h.slot]

theorem Table.clear_change (t : Table) (c : Cell) : t.OpChange (t.clear c).table := by
  unfold Table.clear
  split
  · exact .unchanged
  · rename_i range
    split
    · exact .unchanged
    · rename_i size
      exact .cleared c.p0 c.third.toInt.toNat (by simpa using range) (by omega) (by omega)

theorem Table.deleteClass_change (t : Table) (c : Cell) : t.OpChange (t.deleteClass c).table := by
  unfold Table.deleteClass
  dsimp only
  exact t.drop_change _

theorem Table.forgetLearned_change (t : Table) : t.OpChange t.forgetLearned.table := by
  unfold Table.forgetLearned
  dsimp only
  exact t.drop_change _

/-- A table op makes one of its changes (R64 to R68). -/
theorem Table.applyOp_change (t : Table) (c : Cell) : t.OpChange (t.applyOp c).table := by
  unfold Table.applyOp
  split
  · exact t.insert_change c
  · exact t.delete_change c
  · exact t.deleteClass_change c
  · exact t.clear_change c
  · exact t.forgetLearned_change

/-- A table without targets keeps its law under any window of legal bin size (R58, R67). -/
theorem Table.Law.rewindow {t : Table} {cap : Nat} (h : t.Law cap) (empty : ∀ n, t.target n = none) (x y : Int)
    (k : Nat) (low : 4 ≤ k) (high : k ≤ 19) : Table.Law { t with originX := x, originY := y, k := k } cap :=
  ⟨h.bins, h.wide, fun n g _ hg => absurd (hg.symm.trans (empty n)) (Option.some_ne_none g), h.refs, h.wideCap,
    h.binsSorted, h.wideSorted, h.learned, h.learnedOnce, h.learnedApart, h.learnedPoint, h.learnedCap, low, high⟩

/-- After the release of every OCCUPIED slot no target is left (R67). -/
theorem Table.releaseOccupied_target (t : Table) (n : SlotNo) :
    (t.releaseAll (allSlots.filter fun n => !t.isFree n)).target n = none := by
  rw [t.releaseAll_target]
  split
  · rfl
  · rename_i absent
    simpa [allSlots, Table.isFree] using absent

/-- A table op keeps the law (R64 to R68). -/
theorem Table.Law.opChange {t u : Table} {cap : Nat} (h : t.Law cap) (change : t.OpChange u) : u.Law cap := by
  cases change with
  | unchanged => exact h
  | released l => exact (h.releaseAll l).advance
  | entered n shape tag p range free place =>
    exact (h.enlist n ⟨shape, .application, tag, p⟩ free place fun e => by cases e).advance
  | cleared o k range low high =>
    exact ((h.releaseAll _).rewindow t.releaseOccupied_target o.x o.y k low high).advance

/-! ### Learning and trim (R71 to R73) -/

/-- Under the law, the release of several slots takes exactly them out of the learned list (R63, R70). -/
theorem Table.LearnedLaw.releaseAll_learned {cap : Nat} (l : List SlotNo) {t : Table} (h : t.LearnedLaw cap) :
    (t.releaseAll l).learned = t.learned.filter (· ∉ l) := by
  induction l generalizing t with
  | nil => exact (List.filter_eq_self.2 fun _ _ => by simp).symm
  | cons n rest ih =>
    rw [t.releaseAll_cons,
      ih (h.release n ((removeSlot_length_le n _).trans h.cap)), h.release_learned n, removeSlot, List.filter_filter]
    exact List.filter_congr fun m _ => by simp [Bool.and_comm]

/-- A lawful table meets the law for any cap its learned list meets. -/
theorem Table.Law.recap {t : Table} {cap cap' : Nat} (h : t.Law cap) (short : t.learned.length ≤ cap') :
    t.Law cap' := { h with learnedCap := short }

/-- The trim brings the learned list under the new cap (R73). -/
theorem Table.Law.trim {t : Table} {cap : Nat} (h : t.Law cap) (cap' : Nat) : (t.trim cap').Law cap' := by
  have list := ((t.law_iff cap).1 h).2.1
  unfold Table.trim Table.drop
  split
  · rename_i none_left
    refine h.recap ?_
    have := congrArg List.length none_left
    rw [List.length_take, List.length_nil] at this
    omega
  · refine ((h.releaseAll _).recap ?_).advance
    generalize hk : t.learned.length - cap' = k
    rw [list.releaseAll_learned]
    conv_lhs => rw [← List.take_append_drop k t.learned, List.filter_append, List.length_append]
    have chosen : ((t.learned.take k).filter (· ∉ t.learned.take k)) = [] := by simp
    have kept := List.length_filter_le (· ∉ t.learned.take k) (t.learned.drop k)
    rw [List.length_drop] at kept
    simp only [List.take_append_drop]
    rw [chosen, List.length_nil]
    omega

/-- What learning can do to the table (R71, R72): nothing; make the point's entry the newest; or release entries, at
least one when the list is full, and enter a LEARNED POINT that no entry had. -/
inductive Table.LearnChange (t : Table) (cap : Nat) (p : Point) : Table → Prop where
  | unchanged : LearnChange t cap p t
  | refreshed (n : SlotNo) (mem : n ∈ t.learned) :
      LearnChange t cap p { t with learned := removeSlot n t.learned ++ [n] }
  | entered (l : List SlotNo) (n : SlotNo) (tag : Half) (q : Placement)
      (fresh : ∀ m ∈ t.learned, t.learnedAt p m = false)
      (room : t.learned.length < cap ∨ ∃ m ∈ t.learned, m ∈ l)
      (free : (t.releaseAll l).lowestFree = some n) (place : (t.releaseAll l).place (Shape.point p).box = some q) :
      LearnChange t cap p ((t.releaseAll l).enlist n ⟨.point p, .learned, tag, q⟩).advance

/-- Room is found in the same table, at its lowest FREE slot. -/
theorem Table.room_eq (t u : Table) (p : Point) (n : SlotNo) (q : Placement) (h : t.room p = some (u, n, q)) :
    u = t ∧ t.lowestFree = some n ∧ t.place (Shape.point p).box = some q := by
  unfold Table.room at h
  split at h
  · rename_i free place
    cases h
    exact ⟨rfl, free, place⟩
  · cases h

/-- One call of the recursion of R72. The recursion is unfolded by `delta` on its body, because the equation compiler
would evaluate the search through all slots. -/
theorem Table.makeRoom_body (p : Point) (oldest : SlotNo) (rest : List SlotNo) (calls) (t : Table) :
    Table.makeRoom._f p (oldest :: rest) calls t = (t.room p).elim (calls.1 (t.release oldest)) some := by
  delta Table.makeRoom._f
  dsimp only
  generalize t.room p = found
  cases found with
  | none => rfl
  | some room => rfl

/-- Step 3 of R72: without room the oldest entry is released. -/
theorem Table.makeRoom_cons (p : Point) (oldest : SlotNo) (rest : List SlotNo) (t : Table) :
    Table.makeRoom p (oldest :: rest) t = (t.room p).elim (Table.makeRoom p rest (t.release oldest)) some := by
  delta Table.makeRoom
  dsimp only
  exact Table.makeRoom_body p oldest rest _ t

/-- Making room releases some entries and finds the room in the table left (R72). -/
theorem Table.makeRoom_eq (p : Point) (l : List SlotNo) (t u : Table) (n : SlotNo) (q : Placement)
    (h : Table.makeRoom p l t = some (u, n, q)) :
    ∃ released, u = t.releaseAll released ∧ u.lowestFree = some n ∧ u.place (Shape.point p).box = some q := by
  induction l generalizing t with
  | nil =>
    obtain ⟨rfl, room⟩ := t.room_eq u p n q h
    exact ⟨[], rfl, room⟩
  | cons oldest rest ih =>
    rw [Table.makeRoom_cons] at h
    cases found : t.room p with
    | some room =>
      rw [found] at h
      cases h
      obtain ⟨rfl, room⟩ := t.room_eq u p n q found
      exact ⟨[], rfl, room⟩
    | none =>
      rw [found] at h
      obtain ⟨released, left, room⟩ := ih _ h
      exact ⟨oldest :: released, left.trans (t.releaseAll_cons oldest released).symm, room⟩

theorem Table.learnNew_change (t : Table) (cap : Nat) (tag : Half) (p : Point)
    (fresh : ∀ m ∈ t.learned, t.learnedAt p m = false) : t.LearnChange cap p (t.learnNew cap tag p).table := by
  have chosen : ∀ u n q,
      (if t.learned.length < cap then Table.makeRoom p t.learned t
        else match t.learned with
          | [] => none
          | oldest :: rest => Table.makeRoom p rest (t.release oldest)) = some (u, n, q) →
      ∃ l, (t.learned.length < cap ∨ ∃ m ∈ t.learned, m ∈ l) ∧ u = t.releaseAll l ∧ u.lowestFree = some n ∧
        u.place (Shape.point p).box = some q := by
    intro u n q h
    split at h
    · rename_i short
      obtain ⟨l, room⟩ := Table.makeRoom_eq p _ t u n q h
      exact ⟨l, .inl short, room⟩
    · split at h
      · cases h
      · rename_i oldest rest list
        obtain ⟨l, room⟩ := Table.makeRoom_eq p rest _ u n q h
        rw [list]
        exact ⟨oldest :: l, .inr ⟨oldest, List.mem_cons_self, List.mem_cons_self⟩, room⟩
  unfold Table.learnNew
  dsimp only
  split
  · exact .unchanged
  · rename_i u n q h
    obtain ⟨l, room, rfl, free, place⟩ := chosen u n q h
    dsimp only
    rw [← Table.enlist_learned _ n _ rfl]
    exact .entered l n tag q fresh room free place

/-- Learning makes one of its changes (R71, R72). -/
theorem Table.learn_change (t : Table) (cap : Nat) (tag : Half) (p : Point) :
    t.LearnChange cap p (t.learn cap tag p).table := by
  unfold Table.learn
  split
  · exact .unchanged
  · split
    · rename_i n found
      exact .refreshed n (List.mem_of_find?_eq_some found)
    · rename_i missing
      exact t.learnNew_change cap tag p fun m hm => by simpa using List.find?_eq_none.1 missing m hm

/-- Making an entry the newest keeps the learned list lawful (R70, R71). -/
theorem Table.Law.refresh {t : Table} {cap : Nat} (h : t.Law cap) (n : SlotNo) (mem : n ∈ t.learned) :
    Table.Law { t with learned := removeSlot n t.learned ++ [n] } cap := by
  have same : ∀ m, m ∈ removeSlot n t.learned ++ [n] ↔ m ∈ t.learned := by
    intro m
    rw [List.mem_append, mem_removeSlot, List.mem_singleton]
    by_cases e : m = n
    · simp [e, mem]
    · simp [e]
  refine { h with
    learned := fun m => (same m).trans (h.learned m)
    learnedOnce := (h.learnedOnce.filter _).append (List.nodup_singleton n)
      (List.disjoint_singleton.2 fun k => ((mem_removeSlot n n _).1 k).2 rfl)
    learnedApart := fun m m' hm hm' => h.learnedApart m m' ((same m).1 hm) ((same m').1 hm')
    learnedCap := ?_ }
  have := removeSlot_length n t.learned h.learnedOnce mem
  show (removeSlot n t.learned ++ [n]).length ≤ cap
  rw [List.length_append, List.length_singleton, ← this]
  exact h.learnedCap

/-- Learning under the cap keeps the law (R70 to R72). -/
theorem Table.Law.learnChange {t u : Table} {cap : Nat} {p : Point} (h : t.Law cap) (change : t.LearnChange cap p u) :
    u.Law cap := by
  have list := ((t.law_iff cap).1 h).2.1
  cases change with
  | unchanged => exact h
  | refreshed n mem => exact h.refresh n mem
  | entered l n tag q fresh room free place =>
    refine ((h.releaseAll l).enlist n ⟨.point p, .learned, tag, q⟩ free place fun _ => ⟨⟨p, rfl⟩, fun m hm same => ?_, ?_⟩).advance
    · rw [list.releaseAll_learned, List.mem_filter, decide_eq_true_iff] at hm
      rw [t.releaseAll_target, if_neg hm.2] at same
      have := fresh m hm.1
      unfold Table.learnedAt at this
      split at this <;> simp_all
    · rw [list.releaseAll_learned]
      rcases room with short | ⟨m, hm, released⟩
      · exact (List.length_filter_le _ _).trans_lt short
      · exact (List.length_filter_lt_length_iff_exists.2 ⟨m, hm, by simpa using released⟩).trans_le h.learnedCap

end Sys2Proof.Machine

/-! ## The world range of table, resolution and picture (R1, R6, R55, R119, R153 to R162) -/

namespace Sys2Proof.Machine

/-! ### Targets (R55, R58) -/

/-- The targets of a table and the origin of its bin window lie in the world range (R55, R58). -/
def Table.InRange (t : Table) : Prop :=
  (∀ n g, t.target n = some g → g.shape.inRange) ∧ Point.inWorld ⟨t.originX, t.originY⟩ = true

theorem Table.InRange.release {t : Table} (h : t.InRange) (n : SlotNo) : (t.release n).InRange := by
  obtain ⟨x, y, -⟩ := t.release_window n
  refine ⟨fun m g hg => ?_, by rw [x, y]; exact h.2⟩
  rw [t.release_target] at hg
  split at hg
  · cases hg
  · exact h.1 m g hg

theorem Table.InRange.releaseAll (l : List SlotNo) {t : Table} (h : t.InRange) : (t.releaseAll l).InRange := by
  induction l generalizing t with
  | nil => exact h
  | cons n rest ih => exact ih (h.release n)

theorem Table.InRange.drop {t : Table} (h : t.InRange) (l : List SlotNo) : (t.drop l).InRange := by
  unfold Table.drop
  split
  · exact h
  · exact h.releaseAll l

theorem Table.InRange.enlist {t : Table} (h : t.InRange) (n : SlotNo) (g : Target) (range : g.shape.inRange) :
    (t.enlist n g).InRange := by
  obtain ⟨x, y, -⟩ := t.enlist_window n g
  refine ⟨fun m g' hg => ?_, by rw [x, y]; exact h.2⟩
  rw [t.enlist_target] at hg
  split at hg
  · cases hg
    exact range
  · exact h.1 m g' hg

/-- A table op keeps targets and window in the world range (R64, R67). -/
theorem Table.InRange.opChange {t u : Table} (h : t.InRange) (change : t.OpChange u) : u.InRange := by
  cases change with
  | unchanged => exact h
  | released l => exact h.releaseAll l
  | entered n shape tag p range => exact h.enlist n _ range
  | cleared o k range =>
    generalize allSlots.filter (fun n => !t.isFree n) = occupied
    exact ⟨(h.releaseAll occupied).1, range⟩

/-- Learning a point of the world range keeps targets and window there (R71). -/
theorem Table.InRange.learnChange {t u : Table} {cap : Nat} {p : Point} (h : t.InRange) (hp : p.inWorld = true)
    (change : t.LearnChange cap p u) : u.InRange := by
  cases change with
  | unchanged => exact h
  | refreshed n => exact ⟨h.1, h.2⟩
  | entered l n tag q => exact (h.releaseAll l).enlist n _ hp

/-! ### The result of a resolution (R105, R116 to R119) -/

@[simp] theorem sat_inWorld (v : Int) : inWorld (sat v) = true := by
  rw [inWorld_iff, sat_eq]
  omega

/-- A point lies in the world range when its coordinates do (R1). -/
theorem Point.inWorld_and (p : Point) : p.inWorld = true ↔ Machine.inWorld p.x = true ∧ Machine.inWorld p.y = true :=
  Bool.and_eq_true_iff

theorem quadrant_inWorld (c : Point) (r : Int) (i : BitVec 2) : (quadrant c r i).inWorld = true := by
  unfold quadrant
  split <;> exact satPoint_inWorld _ _

/-- The feature points of a target in range lie in the world range (R15 to R17, R105). -/
theorem Shape.features_inWorld (shape : Shape) (c : Point) (range : shape.inRange) (fp : FeaturePoint)
    (h : fp ∈ shape.features c) : fp.point.inWorld = true := by
  cases shape <;> simp only [Shape.features, List.mem_cons, List.not_mem_nil, or_false] at h
  case point p =>
    rw [h]
    exact range
  case segment a b =>
    obtain ⟨ha, hb⟩ := range
    rcases h with rfl | rfl | rfl | rfl
    · exact ha
    · exact hb
    · exact satPoint_inWorld _ _
    · exact nearestOnSegment_inWorld a b c ha hb
  case circle o r =>
    rcases h with rfl | rfl | rfl | rfl | rfl
    · exact range.1
    all_goals exact quadrant_inWorld _ _ _

theorem Table.Offers.inWorld {t : Table} {c : Point} {f : Feature} {index : BitVec 2} {p : Point}
    (h : t.Offers c f index p) (range : t.InRange) : p.inWorld = true := by
  obtain ⟨n, g, hg, mem⟩ := h
  exact g.shape.features_inWorld c (range.1 n g hg) _ mem

theorem gridAxis_inWorld (x pitch origin : Int) (h : inWorld x = true) : inWorld (gridAxis x pitch origin) = true := by
  unfold gridAxis
  split
  · exact h
  · exact sat_inWorld _

/-- A constrained point takes its coordinates from the two points or from a saturation (R18, R19). -/
theorem constrain_inWorld (mode : ConstraintMode) (a c : Point) (ha : a.inWorld = true) (hc : c.inWorld = true) :
    (constrain mode a c).1.inWorld = true := by
  rw [Point.inWorld_and] at ha hc
  cases mode with
  | free => exact c.inWorld_and.2 hc
  | ortho =>
    simp only [constrain, constrainOrtho]
    split_ifs <;> simp [Point.inWorld_and, ha, hc]
  | octo =>
    simp only [constrain, constrainOcto]
    split_ifs <;> simp [Point.inWorld_and, ha, hc, satPoint]

theorem constraintStep_inWorld (i : ResolutionInputs) (hc : i.c.inWorld = true) (ha : pointInRange i.anchor) :
    (constraintStep i).1.inWorld = true := by
  unfold constraintStep
  split
  · exact hc
  · exact hc
  · rename_i a anchor _
    exact constrain_inWorld _ a i.c (ha a anchor) hc

/-- The result without an object feature lies in the world range (R116 to R118). -/
theorem freeResult_inWorld (i : ResolutionInputs) (hc : i.c.inWorld = true) (ha : pointInRange i.anchor) :
    (freeResult i).s.inWorld = true := by
  obtain ⟨hx, hy⟩ := (Point.inWorld_and _).1 (constraintStep_inWorld i hc ha)
  rw [freeResult_eq, Point.inWorld_and]
  constructor <;> dsimp only <;> split
  · exact gridAxis_inWorld _ _ _ hx
  · exact hx
  · exact gridAxis_inWorld _ _ _ hy
  · exact hy

/-- A resolution's snapped point lies in the world range (R119). -/
theorem resolve_inWorld (i : ResolutionInputs) (t : Table) (range : t.InRange) (hc : i.c.inWorld = true)
    (ha : pointInRange i.anchor) : (resolve i t).s.inWorld = true := by
  rcases resolve_cases i t with ⟨-, ref, p, captured, result, offered⟩ | result
  · rw [result]
    exact offered.inWorld range
  · rw [result]
    exact freeResult_inWorld i hc ha

/-- The constraint anchor is an anchor or the drag base (R101). -/
theorem constraintAnchor_inRange (tool : Tool) (ctx : ToolContext) (d : Drag) (h : figureInRange ctx d) :
    pointInRange (constraintAnchor tool ctx d) := by
  obtain ⟨-, last, base, -⟩ := h
  have counted : pointInRange (if ctx.count = 0 then none else ctx.last) := by
    split
    · exact fun q e => by cases e
    · exact last
  have absent : pointInRange none := fun q e => by cases e
  cases tool with
  | line => exact counted
  | polyline => exact counted
  | move => exact base
  | none => exact absent
  | rect => exact absent
  | circle => exact absent

/-! ### The picture (R153 to R162) -/

/-- Entries in the world range (R193). -/
def EntriesInRange (l : List Entry) : Prop := ∀ e ∈ l, e.inRange

theorem EntriesInRange.append {l m : List Entry} (hl : EntriesInRange l) (hm : EntriesInRange m) :
    EntriesInRange (l ++ m) := fun e he => (List.mem_append.1 he).elim (hl e) (hm e)

theorem EntriesInRange.nil : EntriesInRange [] := fun _ h => nomatch h

theorem EntriesInRange.flatMap {α : Type} {l : List α} {f : α → List Entry} (h : ∀ a ∈ l, EntriesInRange (f a)) :
    EntriesInRange (l.flatMap f) := fun e he =>
  let ⟨a, ha, hea⟩ := List.mem_flatMap.1 he
  h a ha e hea

/-- A stroke through points of the world range (section 8.3). -/
theorem stroke_inRange (style : Style) (layer : Layer) (l : List Point) (h : ∀ p ∈ l, p.inWorld = true) :
    EntriesInRange (stroke style layer l) := by
  cases l with
  | nil => exact .nil
  | cons p rest =>
    obtain ⟨first, others⟩ := List.forall_mem_cons.1 h
    refine List.forall_mem_cons.2 ⟨first, fun e he => ?_⟩
    obtain ⟨q, hq, rfl⟩ := List.mem_map.1 he
    exact others q hq

theorem crosshair_inRange (snap : Snapshot) (c : Point) (view : snap.view.origin.inWorld = true)
    (hc : c.inWorld = true) : EntriesInRange (crosshair snap c) := by
  rw [Point.inWorld_and] at view hc
  unfold crosshair
  dsimp only
  split
  · refine (stroke_inRange _ _ _ ?_).append (stroke_inRange _ _ _ ?_) <;>
      simp [Point.inWorld_and, hc, spanEnd, show inWorld snap.view.ox = true from view.1,
        show inWorld snap.view.oy = true from view.2]
  · refine (stroke_inRange _ _ _ ?_).append (stroke_inRange _ _ _ ?_) <;> simp

theorem apertureBox_inRange (snap : Snapshot) (c : Point) (mode : Mode) :
    EntriesInRange (apertureBox snap c mode) := by
  unfold apertureBox
  split
  · exact stroke_inRange _ _ _ (by simp [squareCorners])
  · exact .nil

theorem marker_inRange (snap : Snapshot) (r : Resolution) : EntriesInRange (marker snap r) := by
  refine .flatMap fun l hl => stroke_inRange _ _ l fun p hp => ?_
  cases hf : r.feature <;> simp only [hf, glyph, List.mem_cons, List.not_mem_nil, or_false] at hl
  case grid => rcases hl with rfl | rfl <;> simp only [List.mem_cons, List.not_mem_nil, or_false] at hp <;>
    rcases hp with rfl | rfl <;> exact satPoint_inWorld _ _
  all_goals
    subst hl
    revert p
    simp

theorem lineBand_inRange (snap : Snapshot) (e : Point) (he : e.inWorld = true)
    (last : pointInRange snap.context.last) : EntriesInRange (lineBand snap e) := by
  unfold lineBand
  split
  · rename_i p hp
    split
    · exact .nil
    · exact stroke_inRange _ _ _ (by simp [he, last p hp])
  · exact .nil

theorem closeHint_inRange (snap : Snapshot) (e : Point) (he : e.inWorld = true)
    (first : pointInRange snap.context.first) : EntriesInRange (closeHint snap e) := by
  unfold closeHint
  split
  · rename_i p hp
    split
    · exact stroke_inRange _ _ _ (by simp [he, first p hp])
    · exact .nil
  · exact .nil

theorem rectBand_inRange (snap : Snapshot) (e : Point) (he : e.inWorld = true)
    (first : pointInRange snap.context.first) : EntriesInRange (rectBand snap e) := by
  unfold rectBand
  split
  · rename_i p hp
    have hp := first p hp
    rw [Point.inWorld_and] at he hp
    split
    · exact stroke_inRange _ _ _ (by simp [Point.inWorld_and, he, hp])
    · exact .nil
  · exact .nil

theorem circleBand_inRange (snap : Snapshot) (e : Point) (he : e.inWorld = true)
    (first : pointInRange snap.context.first) : EntriesInRange (circleBand snap e) := by
  unfold circleBand
  split
  · rename_i p hp
    split
    · refine (stroke_inRange _ _ _ ?_).append (stroke_inRange _ _ _ ?_)
      · simp [he, first p hp]
      · intro q hq
        rcases List.mem_append.1 hq with hq | hq
        · obtain ⟨j, -, rfl⟩ := List.mem_map.1 hq
          exact satPoint_inWorld _ _
        · rw [List.mem_singleton.1 hq]
          exact satPoint_inWorld _ _
    · exact .nil
  · exact .nil

theorem dragBand_inRange (snap : Snapshot) (e : Point) (he : e.inWorld = true) (base : pointInRange snap.drag.base) :
    EntriesInRange (dragBand snap e) := by
  unfold dragBand
  split
  · rename_i p hp
    refine (stroke_inRange _ _ _ ?_).append (.flatMap fun g _ => stroke_inRange _ _ _ ?_)
    · simp [he, base p hp]
    · simp [translated]
  · exact .nil

/-- The rubber band to an end point of the world range (R160 to R162). -/
theorem rubberBand_inRange (snap : Snapshot) (e : Point) (he : e.inWorld = true)
    (figure : figureInRange snap.context snap.drag) : EntriesInRange (rubberBand snap e) := by
  obtain ⟨first, last, base, -⟩ := figure
  unfold rubberBand
  split
  · exact .nil
  · exact lineBand_inRange snap e he last
  · exact (lineBand_inRange snap e he last).append (closeHint_inRange snap e he first)
  · exact rectBand_inRange snap e he first
  · exact circleBand_inRange snap e he first
  · exact dragBand_inRange snap e he base

/-- A build's picture lies in the world range when the build and its result do (R154 to R162). -/
theorem compose_inRange (b : Build) (result : Option Resolution) (gen : Half) (range : b.InRange)
    (hr : ∀ r, result = some r → r.s.inWorld = true) : EntriesInRange (compose b result gen) := by
  have endMark : EntriesInRange [.endMark] := List.forall_mem_singleton.2 trivial
  have head : EntriesInRange [.header (headerOf b result gen), cursorInfoOf result] := by
    refine List.forall_mem_cons.2 ⟨trivial, List.forall_mem_singleton.2 ?_⟩
    cases result with
    | none => exact rfl
    | some r => exact hr r rfl
  have cursor : EntriesInRange (cursorEntries b result) := by
    unfold cursorEntries
    split
    · rename_i c mode r sort
      exact ((crosshair_inRange _ c range.view (range.cursor c mode sort)).append (apertureBox_inRange _ c mode)).append
        (marker_inRange _ r)
    · exact .nil
  have band : EntriesInRange (bandEntries b result) := by
    unfold bandEntries
    split
    · rename_i e he
      refine rubberBand_inRange _ e ?_ range.figure
      cases result with
      | none => exact range.drawing e he
      | some r =>
        cases he
        exact hr r rfl
    · exact .nil
  exact ((head.append cursor).append band).append endMark

end Sys2Proof.Machine

/-! ## Steps that keep the table's law and the world range (R1, R6, R58 to R73) -/

namespace Sys2Proof.Machine

/-! ### Power-on (R78, R190) -/

@[simp] theorem Table.reset_target (n : SlotNo) : Table.reset.target n = none := by
  simp [Table.target, Table.reset]

@[simp] theorem Table.reset_bins (b : Nat) (h : b < 256) : Table.reset.bins[b] = [] := by
  simp [Table.reset]

/-- The table after power-on meets its law under any cap (R78). -/
theorem Table.reset_law (cap : Nat) : Table.reset.Law cap := by
  refine (Table.law_iff _ _).2 ⟨⟨?_, ?_, ?_, ?_, ?_, ?_, ?_⟩, ⟨?_, ?_, ?_, ?_, ?_⟩, by decide⟩
  · simp [Table.binHas]
  · simp [Table.reset_target, show Table.reset.wide = [] from rfl]
  · simp
  · rw [Table.refsUsed_eq]
    simp only [Fin.getElem_fin, Table.reset_bins, List.length_nil, Finset.sum_const_zero, zero_add]
    rfl
  · exact Nat.zero_le _
  · simp
  · exact List.Pairwise.nil
  · simp [show Table.reset.learned = [] from rfl]
  · exact List.nodup_nil
  · simp [show Table.reset.learned = [] from rfl]
  · simp
  · exact Nat.zero_le _

/-- The state after power-on meets the table's law (R190). -/
theorem State.reset_tableLaw : State.reset.TableLaw := Table.reset_law _

theorem pointInRange_none : pointInRange none := fun _ e => nomatch e

theorem pointInRange_some {p : Point} (h : p.inWorld = true) : pointInRange (some p) := fun _ e =>
  Option.some.inj e ▸ h

/-- No anchors, no base and no figure are in range. -/
theorem figureInRange_empty : figureInRange ToolContext.empty Drag.empty :=
  ⟨pointInRange_none, pointInRange_none, pointInRange_none, fun _ e => nomatch e⟩

/-- The points after power-on lie in the world range (R190). -/
theorem State.reset_rangeLaw : State.reset.RangeLaw where
  targets n g hg := absurd (hg.symm.trans (Table.reset_target n)) (Option.some_ne_none g)
  window := by decide
  figure := figureInRange_empty
  log _ e := nomatch e
  resolution _ e := nomatch e
  view := by decide
  banks := by
    intro i e he
    have first : EntriesInRange Bank.initial.entries := fun e he => by
      simp only [Bank.initial, List.mem_cons, List.not_mem_nil, or_false] at he
      rcases he with rfl | rfl | rfl
      · trivial
      · exact rfl
      · trivial
    match i with
    | 0 => exact first e he
    | 1 => exact nomatch he
    | 2 => exact nomatch he
  build _ e := nomatch e
  drawing _ e := nomatch e
  picks i := by cases i <;> decide

/-! ### What the laws speak of -/

/-- The pieces of state that the table's law and the law of the world range speak of. -/
structure Geometry where
  table : Table
  learnCap : Half
  context : ToolContext
  drag : Drag
  log : List CommitRecord
  resolution : Option ResolutionInputs
  view : View
  banks : Vector Bank 3
  build : Option Build
  drawing : Option Point
  point0 : Point
  point1 : Point

def State.geometry (s : State) : Geometry where
  table := s.table
  learnCap := s.active.learnCap
  context := s.tool.context
  drag := s.tool.drag
  log := s.tool.log
  resolution := s.resolver.resolution
  view := s.builder.view
  banks := s.builder.banks
  build := s.builder.build
  drawing := s.builder.lastDrawing
  point0 := s.pick0.point
  point1 := s.pick1.point

/-- A change of state keeps the table's law, and the law of the world range when the points it brings lie there
(`inRange`). -/
structure Keeps (inRange : Prop) (s t : State) : Prop where
  table : s.TableLaw → t.TableLaw
  range : inRange → s.RangeLaw → t.RangeLaw

theorem Keeps.refl {P : Prop} (s : State) : Keeps P s s := ⟨id, fun _ => id⟩

theorem Keeps.trans {P : Prop} {s t u : State} (h : Keeps P s t) (k : Keeps P t u) : Keeps P s u :=
  ⟨k.table ∘ h.table, fun p => k.range p ∘ h.range p⟩

/-- `Keeps.trans` from the last change backwards, for a goal that names the state before that change. -/
theorem Keeps.after {P : Prop} {s t u : State} (k : Keeps P t u) (h : Keeps P s t) : Keeps P s u := h.trans k

/-- The result points stay in the world range where the slots keep them (R172). -/
theorem State.RangeLaw.picks_of {s t : State} (h : s.RangeLaw) (p0 : t.pick0.point = s.pick0.point)
    (p1 : t.pick1.point = s.pick1.point) (i : PickId) : (t.pick i).point.inWorld = true := by
  cases i with
  | pick0 => exact (congrArg Point.inWorld p0).trans (h.picks .pick0)
  | pick1 => exact (congrArg Point.inWorld p1).trans (h.picks .pick1)

/-- The laws depend on nothing but the geometry. -/
theorem Keeps.of_geometry {P : Prop} {s t : State} (h : t.geometry = s.geometry) : Keeps P s t := by
  injection h with table learnCap context drag log resolution view banks build drawing point0 point1
  refine ⟨fun law => ?_, fun _ law => ?_⟩
  · unfold State.TableLaw at *
    rwa [table, learnCap]
  · exact
      { targets := by rw [table]; exact law.targets
        window := by rw [table]; exact law.window
        figure := by rw [context, drag]; exact law.figure
        log := by rw [log]; exact law.log
        resolution := by rw [resolution]; exact law.resolution
        view := by rw [view]; exact law.view
        banks := by rw [banks]; exact law.banks
        build := by rw [build]; exact law.build
        drawing := by rw [drawing]; exact law.drawing
        picks := law.picks_of point0 point1 }

/-- A change of the world points alone keeps the table's law. -/
theorem Keeps.of_range {P : Prop} {s t : State} (table : t.table = s.table) (active : t.active = s.active)
    (range : P → s.RangeLaw → t.RangeLaw) : Keeps P s t :=
  ⟨fun law => by
    unfold State.TableLaw at *
    rwa [table, active], range⟩

/-! ### Operations that leave the geometry as it is -/

theorem LinkFrame.keeps {P : Prop} {s t : State} (h : LinkFrame s t) : Keeps P s t := by
  obtain ⟨l, n, r, rfl⟩ := h
  exact .of_geometry rfl

theorem ListFrame.keeps {P : Prop} {s t : State} (h : ListFrame s t) : Keeps P s t := by
  obtain ⟨u, n, rfl⟩ := h
  exact .of_geometry rfl

theorem arbitrate_keeps {P : Prop} (s : State) : Keeps P s (arbitrate s) := by
  obtain ⟨a, f, p, q, h⟩ := arbitrate_frame s
  rw [h]
  exact .of_geometry rfl

theorem request_keeps {P : Prop} (r : Requester) (s : State) : Keeps P s (request r s) := by
  obtain ⟨a, f, p, q, h⟩ := request_frame r s
  rw [h]
  exact .of_geometry rfl

theorem withdraw_keeps {P : Prop} (r : Requester) (s : State) : Keeps P s (withdraw r s) := .of_geometry rfl

theorem accessed_keeps {P : Prop} (port : PortId) (loc : Nat) (s : State) : Keeps P s (accessed port loc s) := by
  obtain ⟨p, h⟩ := accessed_frame port loc s
  rw [h]
  exact .of_geometry rfl

theorem settleReset_keeps {P : Prop} (s : State) : Keeps P s (settleReset s) := by
  rcases settleReset_cases s with ⟨-, -, -, h⟩ | h
  · rw [h]
    exact .of_geometry rfl
  · rw [h]
    exact .refl s

theorem raiseApp_keeps {P : Prop} (n : AppNotice) (s : State) : Keeps P s (raiseApp n s) := .of_geometry rfl

theorem raiseDisp_keeps {P : Prop} (n : DispNotice) (s : State) : Keeps P s (raiseDisp n s) := .of_geometry rfl

theorem requestRebuild_keeps {P : Prop} (s : State) : Keeps P s (requestRebuild s) := .of_geometry rfl

theorem emptyCapture_keeps {P : Prop} (s : State) : Keeps P s (emptyCapture s) := by
  rw [emptyCapture_eq]
  exact .of_geometry rfl

theorem handlePress_keeps {P : Prop} (c : CommitInHand) (s : State) : Keeps P s (handlePress c s) := by
  rw [handlePress_eq]
  exact .of_geometry rfl

theorem beginGrantedCell_keeps {P : Prop} (s : State) : Keeps P s (beginGrantedCell s) := by
  rcases beginGrantedCell_cases s with ⟨list, applied, cell, c, -, h⟩ | h
  · rw [h]
    exact .of_geometry rfl
  · rw [h]
    exact .refl s

theorem resetUpdate_keeps {P : Prop} (s : State) : Keeps P s (resetUpdate s) := by
  rcases resetUpdate_cases s with ⟨-, h⟩ | ⟨-, h⟩
  · rw [h]
    exact .of_geometry rfl
  · rw [h]
    exact .refl s

theorem raisePickDone_keeps {P : Prop} (i : PickId) (s : State) : Keeps P s (raisePickDone i s) := by
  cases i <;> exact .of_geometry rfl

theorem cellBoundary_keeps {P : Prop} (s : State) : Keeps P s (cellBoundary s) :=
  (settleReset_keeps _).after (.of_geometry rfl)

/-! ### Tool context, drag figure and log (R24, R86, R123, R125, R140) -/

theorem toolResetEvent_keeps {P : Prop} (s : State) : Keeps P s (toolResetEvent s) :=
  .of_range rfl rfl fun _ h =>
    { h with
      figure := figureInRange_empty
      log := fun _ e => nomatch e
      picks := h.picks_of rfl rfl }

theorem putContext_keeps {P : Prop} (c : ToolContext) (d : Drag) (s : State)
    (range : P → figureInRange s.tool.context s.tool.drag → figureInRange c d) : Keeps P s (putContext c d s) :=
  .of_range rfl rfl fun p h =>
    { h with figure := range p h.figure, picks := h.picks_of rfl rfl }

theorem appendRecord_keeps {P : Prop} (r : CommitRecord) (s : State) (range : P → pointInRange r.s) :
    Keeps P s (appendRecord r s) :=
  .of_range rfl rfl fun p h =>
    { h with
      log := fun r' mem => by
        rcases List.mem_append.1 mem with old | new
        · exact h.log r' old
        · rw [List.mem_singleton.1 new]
          exact range p
      picks := h.picks_of rfl rfl }

theorem commitPop_keeps {P : Prop} (s : State) : Keeps P s (commitPop s) :=
  .of_range rfl rfl fun _ h =>
    { h with
      log := fun r mem => h.log r (List.mem_of_mem_drop mem)
      picks := h.picks_of rfl rfl }

/-- Offsets of world points from a world base are in range (R24). -/
theorem dragOffsets_inRange (base p0 p1 : Point) (hb : base.inWorld = true) (h0 : p0.inWorld = true)
    (h1 : p1.inWorld = true) :
    offsetInRange (dragOffsets base p0 p1).o0 ∧ offsetInRange (dragOffsets base p0 p1).o1 := by
  rw [Point.inWorld_iff] at hb h0 h1
  simp only [offsetInRange, dragOffsets]
  omega

/-- A drag cell leaves base and offsets in range (R86). -/
theorem dragOutcome_inRange (ctx : ToolContext) (d : Drag) (c : Cell) (h : figureInRange ctx d) :
    figureInRange ctx (dragOutcome d c).1 := by
  obtain ⟨first, last, base, figure⟩ := id h
  unfold dragOutcome
  split
  · split
    · rename_i inside
      exact ⟨first, last, pointInRange_some inside, fun _ e => nomatch e⟩
    · exact h
  · split
    · exact h
    · rename_i inside
      obtain ⟨h0, h1⟩ := Bool.and_eq_true_iff.1 (Bool.not_eq_false _ ▸ inside)
      split
      · exact h
      · rename_i b hb
        split
        · exact h
        · refine ⟨first, last, pointInRange_some (base b hb), fun g mem => ?_⟩
          rcases List.mem_append.1 mem with old | new
          · exact figure g old
          · rw [List.mem_singleton.1 new]
            exact dragOffsets_inRange b c.p0 c.p1 (base b hb) h0 h1

theorem applyDrag_keeps {P : Prop} (f : InFlight) (c : Cell) (s : State) : Keeps P s (applyDrag f c s) := by
  rw [applyDrag_eq]
  exact .of_range rfl rfl fun _ h =>
    { h with
      figure := dragOutcome_inRange _ _ c h.figure
      picks := h.picks_of rfl rfl }

theorem applyWaitingDrag_keeps {P : Prop} (s : State) : Keeps P s (applyWaitingDrag s) := by
  unfold applyWaitingDrag
  split
  · split
    · exact .refl s
    · exact applyDrag_keeps _ _ s
  · exact .refl s

/-! ### Table ops and the taking of an apply (R73, R124, R185) -/

theorem putTable_keeps {P : Prop} (u : Table) (s : State) (law : s.TableLaw → u.Law s.active.learnCap.toNat)
    (range : P → s.table.InRange → u.InRange) : Keeps P s (putTable u s) :=
  ⟨law, fun p h =>
    have points := range p ⟨h.targets, h.window⟩
    { h with targets := points.1, window := points.2, picks := h.picks_of rfl rfl }⟩

theorem LinkFrame.tool_eq {s t : State} (h : LinkFrame s t) : t.tool = s.tool := by
  obtain ⟨l, n, r, rfl⟩ := h
  rfl

/-- The taking of an apply leaves context and drag figure, or clears both (R124). -/
theorem takeApply_tool (s : State) : (takeApply s).tool = s.tool ∨
    (takeApply s).tool = { s.tool with context := ToolContext.empty, drag := Drag.empty } := by
  have kept : ∀ new t, (applyDevice s.active new (applyRate s.active new t)).tool = t.tool := fun new t =>
    ((applyRate_frame s.active new t).trans (applyDevice_frame s.active new _)).tool_eq
  have last : (takeApply s).tool =
      (applyTool s.active (s.staged.clamped s.active.tool) { s with active := s.staged.clamped s.active.tool }).tool := by
    unfold takeApply
    dsimp only
    split <;> simp only [requestRebuild_tool, raiseApp_tool, kept, putTable_tool]
  rw [last]
  unfold applyTool
  split
  · exact .inl rfl
  · exact .inr rfl

theorem takeApply_keeps {P : Prop} (s : State) : Keeps P s (takeApply s) := by
  obtain ⟨l, n, c, d, h⟩ := takeApply_frame s
  refine ⟨fun law => ?_, fun _ law => ?_⟩
  · rw [h]
    exact Table.Law.trim law _
  · have figure : figureInRange (takeApply s).tool.context (takeApply s).tool.drag := by
      rcases takeApply_tool s with same | cleared
      · rw [same]
        exact law.figure
      · rw [cleared]
        exact figureInRange_empty
    rw [h] at figure ⊢
    have trimmed := Table.InRange.drop ⟨law.targets, law.window⟩
      (s.table.learned.take (s.table.learned.length - (s.staged.clamped s.active.tool).learnCap.toNat))
    exact { law with
      targets := trimmed.1
      window := trimmed.2
      figure := figure
      picks := law.picks_of rfl rfl }

end Sys2Proof.Machine

/-! ## Builds, commits, lists and picks keep the laws (chapters 5, 7, 8, 9) -/

namespace Sys2Proof.Machine

/-! ### Banks, builds and the view (R148 to R152, R163 to R169) -/

/-- Banks whose entries all lie in the world range (R193). -/
def BanksInRange (banks : Vector Bank 3) : Prop := ∀ i : Fin 3, EntriesInRange (banks[i]).entries

/-- A change of the banks' states leaves their entries. -/
theorem BanksInRange.map {banks : Vector Bank 3} (h : BanksInRange banks) (f : Bank → Bank)
    (same : ∀ b, (f b).entries = b.entries) : BanksInRange (banks.map f) := by
  intro i
  rw [Fin.getElem_fin, Vector.getElem_map, same]
  exact h i

theorem BanksInRange.set {banks : Vector Bank 3} (h : BanksInRange banks) (i : Fin 3) (b : Bank)
    (range : EntriesInRange b.entries) : BanksInRange (banks.set i.val b i.isLt) := by
  intro j
  rw [Fin.getElem_fin, Vector.getElem_set]
  split
  · exact range
  · exact h j

/-- The builder takes banks, a build, a last drawing point and a view in range. -/
theorem withBuilder_keeps {P : Prop} (b : Builder) (s : State)
    (range : P → s.RangeLaw → BanksInRange b.banks ∧ (∀ build, b.build = some build → build.InRange) ∧
      pointInRange b.lastDrawing ∧ b.view.origin.inWorld = true) : Keeps P s (s.withBuilder b) :=
  .of_range rfl rfl fun p h =>
    have ⟨banks, build, drawing, view⟩ := range p h
    { h with banks := banks, build := build, drawing := drawing, view := view, picks := h.picks_of rfl rfl }

/-- The snapshot and cursor point of a build start lie in the world range (R150, R151). -/
theorem State.RangeLaw.build_start {s : State} (h : s.RangeLaw) (bank : Fin 3) (number gen : Half) :
    Build.InRange ⟨bank, number, takeSnapshot s, buildSort (takeSnapshot s),
      firstPhase (buildSort (takeSnapshot s)) gen⟩ where
  cursor c mode sort := by
    dsimp only [buildSort] at sort
    split at sort
    · split at sort <;> cases sort
      exact cursorPoint_inWorld _ _ _
    all_goals cases sort
  view := h.view
  figure := h.figure
  drawing := h.drawing
  result r g phase := by
    change firstPhase (buildSort (takeSnapshot s)) gen = _ at phase
    generalize buildSort (takeSnapshot s) = sort at phase
    cases sort <;> cases phase

theorem afterSnapshot_keeps {P : Prop} (sort : BuildSort) (s : State) : Keeps P s (afterSnapshot sort s) := by
  cases sort with
  | cursor c mode => exact request_keeps _ s
  | menu window cell => exact emptyCapture_keeps s
  | absent => exact .refl s

theorem beginBuild_keeps {P : Prop} (bank : Fin 3) (s : State) : Keeps P s (beginBuild bank s) := by
  rw [beginBuild_eq]
  refine (afterSnapshot_keeps _ _).after (withBuilder_keeps _ s fun _ h => ⟨?_, ?_, h.drawing, h.view⟩)
  · exact BanksInRange.set h.banks bank _ (h.banks bank)
  · intro build e
    cases e
    exact h.build_start bank _ _

theorem makeBuildStart_keeps {P : Prop} (s : State) : Keeps P s (makeBuildStart s) := by
  unfold makeBuildStart
  split
  · exact .refl s
  · split
    · exact (takeApply_keeps s).trans (beginBuild_keeps _ _)
    · exact beginBuild_keeps _ s

theorem tryBuildStart_keeps {P : Prop} (s : State) : Keeps P s (tryBuildStart s) := by
  unfold tryBuildStart
  split_ifs
  · exact .refl s
  · exact .refl s
  · exact makeBuildStart_keeps s

theorem freeHolder_keeps {P : Prop} (s : State) : Keeps P s (freeHolder s) := .of_geometry rfl

theorem releaseGrant_keeps {P : Prop} (s : State) : Keeps P s (releaseGrant s) := by
  have free := freeHolder_keeps (P := P) s
  unfold releaseGrant
  dsimp only
  split
  · exact (free.trans (makeBuildStart_keeps _)).trans (arbitrate_keeps _)
  · exact free.trans (arbitrate_keeps _)

/-- The banks after a completion: the composed entries before those an earlier build left (R154, R163). -/
theorem banksCompleted_inRange {banks : Vector Bank 3} (h : BanksInRange banks) (bank : Fin 3) (entries : List Entry)
    (range : EntriesInRange entries) : BanksInRange (banksCompleted banks bank entries) := by
  have freed := h.map (fun b => if b.state = .ready then { b with state := .free } else b)
    (fun b => by split <;> rfl)
  exact freed.set bank _ (range.append fun e he => freed bank e (List.mem_of_mem_drop he))

theorem completeBuild_keeps {P : Prop} (s : State) : Keeps P s (completeBuild s) := by
  unfold completeBuild
  split
  · rename_i bank number snap sort result gen build
    refine (raiseDisp_keeps _ _).after (withBuilder_keeps _ s fun _ h => ?_)
    have range := h.build _ build
    have result_range : ∀ r, result = some r → r.s.inWorld = true := fun r e => range.result r gen (by rw [e])
    refine ⟨banksCompleted_inRange h.banks bank _ (compose_inRange _ result gen range result_range),
      fun b e => (nomatch e), ?_, h.view⟩
    dsimp only [lastDrawingAfter]
    split
    · exact pointInRange_some (result_range _ rfl)
    · exact h.drawing
  · exact .refl s

theorem commitView_keeps {P : Prop} (s : State) : Keeps P s (commitView s) := by
  have committed : Keeps P s (requestRebuild (s.withBuilder { s.builder with
      view := s.builder.staged.clamped, viewGen := s.builder.viewGen + 1, stagedWritten := false })) :=
    (requestRebuild_keeps _).after
      (withBuilder_keeps _ s fun _ h => ⟨h.banks, h.build, h.drawing, satPoint_inWorld _ _⟩)
  unfold commitView
  dsimp only
  split
  · exact .refl s
  · split
    · exact (raiseDisp_keeps _ _).after committed
    · exact committed

theorem rotated_inRange {banks : Vector Bank 3} (h : BanksInRange banks) : BanksInRange (rotated banks) := by
  unfold rotated
  split
  · exact h.map _ fun b => by split <;> rfl
  · exact h

theorem frameStart_keeps {P : Prop} (s : State) : Keeps P s (frameStart s) :=
  (commitView_keeps s).trans
    (withBuilder_keeps _ _ fun _ h => ⟨rotated_inRange h.banks, h.build, h.drawing, h.view⟩)

theorem advanceStream_keeps {P : Prop} (s : State) : Keeps P s (advanceStream s) := by
  rw [advanceStream_eq]
  exact .of_geometry rfl

theorem readStream_keeps {P : Prop} (s : State) : Keeps P s (readStream s) :=
  (advanceStream_keeps s).trans (.of_geometry rfl)

theorem abandonResolution_keeps {P : Prop} (s : State) : Keeps P s (abandonResolution s) :=
  .of_range rfl rfl fun _ h => { h with resolution := fun _ e => (nomatch e), picks := h.picks_of rfl rfl }

theorem resetBuilder_keeps {P : Prop} (s : State) : Keeps P s (resetBuilder s) := by
  have last : ∀ t : State, Keeps P t (t.withBuilder { t.builder with
      rebuild := true
      banks := t.builder.banks.map fun b =>
        match b.state with
        | .building => { b with state := .free }
        | .ready => { b with state := .free }
        | .free => b
        | .shown => b
      build := none
      lastDrawing := none }) := fun t =>
    withBuilder_keeps _ t fun _ h => ⟨BanksInRange.map h.banks _ fun b => by split <;> rfl, fun _ e => (nomatch e),
      pointInRange_none, h.view⟩
  unfold resetBuilder
  dsimp only
  split
  · exact (withdraw_keeps _ s).trans (last _)
  · exact ((withdraw_keeps _ s).trans (abandonResolution_keeps _)).trans (last _)
  · exact last s

/-! ### Commits and resolutions (R120, R126 to R138) -/

/-- A resolution starts about a point, and with an anchor, of the world range (R100, R101). -/
theorem startResolution_keeps {P : Prop} (c : Point) (mode : Mode) (st : Settings) (scale : Int) (a : Option Point)
    (s : State) (range : P → s.RangeLaw → c.inWorld = true ∧ pointInRange a) :
    Keeps P s (startResolution c mode st scale a s) :=
  .of_range rfl rfl fun p h =>
    { h with
      resolution := fun i e => by
        cases e
        exact range p h
      picks := h.picks_of rfl rfl }

theorem endResolution_keeps {P : Prop} (r : Resolution) (s : State) : Keeps P s (endResolution r s) :=
  .of_range rfl rfl fun _ h => { h with resolution := fun _ e => (nomatch e), picks := h.picks_of rfl rfl }

theorem endCommit_keeps {P : Prop} (c : CommitInHand) (s : State) : Keeps P s (endCommit c s) := by
  have handled : Keeps P s (applyWaitingDrag (handlePress c (s.withTool { s.tool with commit := none }))) :=
    (applyWaitingDrag_keeps _).after ((handlePress_keeps c _).after (.of_geometry rfl))
  have ended : ∀ t, Keeps P t (releaseGrant (settleReset t)) := fun t =>
    (settleReset_keeps t).trans (releaseGrant_keeps _)
  unfold endCommit
  dsimp only
  split
  · exact (handled.trans (toolResetEvent_keeps _)).trans (ended _)
  · exact handled.trans (ended _)

/-- A FINISH or CANCEL keeps the laws when its context and figure are in range (R134, R135). -/
theorem commitWithoutPoint_keeps {P : Prop} (c : CommitInHand) (kind : RecordKind) (e : PressEffect) (s : State)
    (range : figureInRange s.tool.context s.tool.drag → figureInRange e.context e.drag) :
    Keeps P s (commitWithoutPoint c kind e s) :=
  ((putContext_keeps _ _ s fun _ => range).trans (appendRecord_keeps _ _ fun _ => pointInRange_none)).trans
    (endCommit_keeps c _)

theorem commitMenuPick_keeps {P : Prop} (c : CommitInHand) (window : MenuId) (cell : BitVec 8) (s : State) :
    Keeps P s (commitMenuPick c window cell s) :=
  ((emptyCapture_keeps s).trans (appendRecord_keeps _ _ fun _ => pointInRange_none)).trans (endCommit_keeps c _)

theorem commitResolution_keeps {P : Prop} (c : CommitInHand) (mode : Mode) (s : State) :
    Keeps P s (commitResolution c mode s) :=
  (startResolution_keeps _ _ _ _ _ _ fun _ h =>
      ⟨cursorPoint_inWorld _ _ _, constraintAnchor_inRange _ _ _ h.figure⟩).after (.of_geometry rfl)

theorem commitPoint_keeps {P : Prop} (c : CommitInHand) (s : State) : Keeps P s (commitPoint c s) := by
  unfold commitPoint
  split
  · exact commitMenuPick_keeps c _ _ s
  · exact commitResolution_keeps c _ s

theorem dragEnded_inRange (tool : Tool) (ctx : ToolContext) (d : Drag) (h : figureInRange ctx d) :
    figureInRange ToolContext.empty (dragEnded tool d) := by
  obtain ⟨-, -, base, figure⟩ := h
  unfold dragEnded
  split
  · exact figureInRange_empty
  · exact ⟨pointInRange_none, pointInRange_none, base, figure⟩

theorem commitAccepted_keeps {P : Prop} (c : CommitInHand) (s : State) : Keeps P s (commitAccepted c s) := by
  unfold commitAccepted
  split
  · exact commitWithoutPoint_keeps c _ _ s (dragEnded_inRange _ _ _)
  · exact commitWithoutPoint_keeps c _ _ s (dragEnded_inRange _ _ _)
  · exact commitPoint_keeps c s
  · exact commitPoint_keeps c s

theorem beginCommit_keeps {P : Prop} (c : CommitInHand) (s : State) : Keeps P s (beginCommit c s) := by
  have applied : Keeps P s (if s.applyPending then takeApply s else s) := by
    split
    · exact takeApply_keeps s
    · exact .refl s
  unfold beginCommit
  dsimp only
  split
  · exact applied.trans ((raiseApp_keeps _ _).trans (endCommit_keeps c _))
  · exact applied.trans (commitAccepted_keeps c _)

theorem finishAux_keeps (c : CommitInHand) (r : Resolution) (s : State) :
    Keeps (r.s.inWorld = true) s (finishAux c r s) :=
  (appendRecord_keeps _ s pointInRange_some).trans (endCommit_keeps c _)

/-- A PLACE leaves anchors among the placed point and those it found (R131 to R133). -/
theorem placeEffect_inRange (tool : Tool) (ctx : ToolContext) (d : Drag) (p : Point) (hp : p.inWorld = true)
    (h : figureInRange ctx d) : figureInRange (placeEffect tool ctx d p).context (placeEffect tool ctx d p).drag := by
  obtain ⟨first, last, base, figure⟩ := id h
  have here := pointInRange_some hp
  have twoPoint : ∀ learns, figureInRange (placeTwoPoint ctx d p learns).context (placeTwoPoint ctx d p learns).drag := by
    intro learns
    unfold placeTwoPoint
    split
    · exact ⟨here, here, base, figure⟩
    · exact ⟨pointInRange_none, pointInRange_none, base, figure⟩
  cases tool with
  | none => exact h
  | move => exact h
  | line => exact twoPoint _
  | rect => exact twoPoint _
  | circle => exact twoPoint _
  | polyline =>
    simp only [placeEffect, placePolyline]
    split
    · exact ⟨here, here, base, figure⟩
    · exact ⟨first, here, base, figure⟩

/-- The learning of a PLACE keeps the table's law, and the world range for a point there (R71, R138). -/
theorem learnFor_keeps (learns : Bool) (p : Point) (s : State) :
    Keeps (p.inWorld = true) s (putTable (learnFor learns p s).table s) := by
  have change : s.table.LearnChange s.active.learnCap.toNat p (learnFor learns p s).table := by
    unfold learnFor
    split
    · exact s.table.learn_change _ _ p
    · exact .unchanged
  exact putTable_keeps _ s (fun law => Table.Law.learnChange law change) fun hp range => range.learnChange hp change

theorem finishPlace_keeps (c : CommitInHand) (r : Resolution) (s : State) :
    Keeps (r.s.inWorld = true) s (finishPlace c r s) :=
  (((putContext_keeps _ _ s fun hr => placeEffect_inRange _ _ _ _ hr).trans (learnFor_keeps _ r.s _)).trans
    (appendRecord_keeps _ _ pointInRange_some)).trans (endCommit_keeps c _)

theorem finishCommit_keeps (c : CommitInHand) (r : Resolution) (s : State) :
    Keeps (r.s.inWorld = true) s (finishCommit c r s) := by
  unfold finishCommit
  split
  · exact finishPlace_keeps c r s
  · exact finishAux_keeps c r s
  · exact .refl s
  · exact .refl s

theorem endCommitResolution_keeps (r : Resolution) (s : State) :
    Keeps (r.s.inWorld = true) s (endCommitResolution r s) := by
  unfold endCommitResolution
  split
  · exact finishCommit_keeps _ r s
  · exact .refl s

theorem endBuildResolution_keeps (r : Resolution) (s : State) :
    Keeps (r.s.inWorld = true) s (endBuildResolution r s) := by
  unfold endBuildResolution
  split
  · rename_i bank number snap sort build
    refine (releaseGrant_keeps _).after
      (withBuilder_keeps _ s fun hr h => ⟨h.banks, fun b e => ?_, h.drawing, h.view⟩)
    cases e
    have range := h.build _ build
    exact
      { cursor := range.cursor, view := range.view, figure := range.figure, drawing := range.drawing
        result := fun r' gen phase => by
          cases phase
          exact hr }
  · exact .refl s

/-- RESOLUTION_END keeps the laws: the result lies in the world range when the resolution's inputs do (R120). -/
theorem resolutionEnds_keeps {P : Prop} (s : State) : Keeps P s (resolutionEnds s) := by
  unfold resolutionEnds
  split
  · exact .refl s
  · rename_i i inputs
    dsimp only
    have ended := endResolution_keeps (P := (resolve i s.table).s.inWorld = true) (resolve i s.table) s
    have result : s.RangeLaw → (resolve i s.table).s.inWorld = true := fun h =>
      have ⟨hc, ha⟩ := h.resolution i inputs
      resolve_inWorld i s.table ⟨h.targets, h.window⟩ hc ha
    suffices all : Keeps ((resolve i s.table).s.inWorld = true) s _ from
      ⟨all.table, fun _ h => all.range (result h) h⟩
    split
    · exact ended.trans (endBuildResolution_keeps _ _)
    · exact ended.trans (endCommitResolution_keeps _ _)
    · exact ended

theorem beginBuildResolution_keeps {P : Prop} (s : State) : Keeps P s (beginBuildResolution s) := by
  unfold beginBuildResolution
  split
  · rename_i bank number snap c mode build
    have started : Keeps P s (s.withBuilder { s.builder with
        build := some ⟨bank, number, snap, .cursor c mode, .resolving⟩ }) :=
      withBuilder_keeps _ s fun _ h => ⟨h.banks, fun b e => by
        cases e
        have range := h.build _ build
        exact
          { cursor := range.cursor, view := range.view, figure := range.figure, drawing := range.drawing
            result := fun _ _ phase => nomatch phase }, h.drawing, h.view⟩
    refine started.trans (startResolution_keeps _ _ _ _ _ _ fun _ h => ?_)
    have range := h.build _ rfl
    exact ⟨range.cursor c mode rfl, constraintAnchor_inRange _ _ _ range.figure⟩
  · exact .refl s

theorem beginGrantedCommit_keeps {P : Prop} (s : State) : Keeps P s (beginGrantedCommit s) := by
  unfold beginGrantedCommit
  split
  · exact beginCommit_keeps _ s
  · exact .refl s

theorem tableGrant_keeps {P : Prop} (s : State) : Keeps P s (tableGrant s) := by
  have granted := arbitrate_keeps (P := P) s
  unfold tableGrant
  dsimp only
  split
  · exact granted.trans (beginGrantedCommit_keeps _)
  · exact granted.trans (beginBuildResolution_keeps _)
  · exact granted.trans (beginGrantedCell_keeps _)
  all_goals exact granted

theorem tryCommitStart_keeps {P : Prop} (s : State) : Keeps P s (tryCommitStart s) := by
  unfold tryCommitStart
  split
  · split
    · exact (request_keeps _ _).after (.of_geometry rfl)
    · exact .refl s
  · exact .refl s

theorem resetTool_keeps {P : Prop} (s : State) : Keeps P s (resetTool s) := by
  unfold resetTool
  split
  · exact .of_geometry rfl
  · exact (toolResetEvent_keeps _).after (.of_geometry rfl)
  · exact toolResetEvent_keeps s

/-! ### Lists and cells (R81 to R94) -/

theorem startWriteBack_keeps {P : Prop} (f : InFlight) (c : Cell) (r : CellResult) (h : Option Word) (s : State) :
    Keeps P s (startWriteBack f c r h s) := .of_geometry rfl

theorem dispatch_keeps {P : Prop} (f : InFlight) (c : Cell) (s : State) : Keeps P s (dispatch f c s) := by
  unfold dispatch
  split_ifs
  · exact (request_keeps _ _).after (.of_geometry rfl)
  · exact startWriteBack_keeps _ _ _ _ s
  · exact startWriteBack_keeps _ _ _ _ s
  · exact .of_geometry rfl
  · exact applyDrag_keeps f c s

theorem fetchDone_keeps {P : Prop} (f : InFlight) (reply : FetchReply) (s : State) :
    Keeps P s (fetchDone f reply s) := by
  unfold fetchDone
  split
  · exact cellBoundary_keeps s
  · split
    · exact (endList_frame _ _ s).keeps
    · split
      · exact dispatch_keeps _ _ s
      · exact (endList_frame _ _ s).keeps

theorem fetchCompletes_keeps {P : Prop} (reply : FetchReply) (s : State) : Keeps P s (fetchCompletes reply s) := by
  unfold fetchCompletes
  split
  · exact fetchDone_keeps _ reply s
  · exact .refl s

theorem cellApplied_keeps {P : Prop} (f : InFlight) (c : Cell) (s : State) : Keeps P s (cellApplied f c s) := by
  have change := s.table.applyOp_change c
  have put : Keeps P s (putTable (s.table.applyOp c).table s) :=
    putTable_keeps _ s (fun law => Table.Law.opChange law change) fun _ range => range.opChange change
  exact (releaseGrant_keeps _).after ((startWriteBack_keeps f c _ _ _).after put)

theorem cellApplies_keeps {P : Prop} (s : State) : Keeps P s (cellApplies s) := by
  unfold cellApplies
  split
  · exact cellApplied_keeps _ _ s
  · exact .refl s

theorem boundaryAfterWrite_keeps {P : Prop} (busError : Bool) (s : State) :
    Keeps P s (boundaryAfterWrite busError s) := by
  unfold boundaryAfterWrite
  split
  · exact (raiseApp_keeps _ s).trans (cellBoundary_keeps _)
  · exact cellBoundary_keeps s

theorem followLink_keeps {P : Prop} (f : InFlight) (c : Cell) (s : State) : Keeps P s (followLink f c s) := by
  unfold followLink
  split_ifs
  · exact (endList_frame _ _ s).keeps
  · exact (endList_frame _ _ s).keeps
  · exact .of_geometry rfl

theorem tearDown_keeps {P : Prop} (f : InFlight) (c : Cell) (s : State) : Keeps P s (tearDown f c s) := by
  unfold tearDown
  split_ifs
  · exact (endList_frame _ _ s).keeps
  · exact (endList_frame _ _ s).keeps
  · exact .of_geometry rfl

theorem writeBackDone_keeps {P : Prop} (f : InFlight) (c : Cell) (failed : Bool) (s : State) :
    Keeps P s (writeBackDone f c failed s) := by
  unfold writeBackDone
  split
  · exact boundaryAfterWrite_keeps _ s
  · split
    · exact (endList_frame _ _ s).keeps
    · split
      · exact tearDown_keeps f c s
      · exact followLink_keeps f c s

theorem showWrites_keeps {P : Prop} (l : List (Word × Word)) (s : State) : Keeps P s (showWrites l s) :=
  .of_geometry rfl

theorem writeBackCompletes_keeps {P : Prop} (handleError controlError : Bool) (s : State) :
    Keeps P s (writeBackCompletes handleError controlError s) := by
  unfold writeBackCompletes
  split
  · exact (showWrites_keeps _ s).trans (writeBackDone_keeps _ _ _ _)
  · exact .refl s

theorem markingDone_keeps {P : Prop} (f : InFlight) (busError : Bool) (s : State) :
    Keeps P s (markingDone f busError s) := by
  unfold markingDone
  split
  · exact boundaryAfterWrite_keeps _ s
  · exact (endList_frame _ _ s).keeps

theorem markingCompletes_keeps {P : Prop} (busError : Bool) (s : State) : Keeps P s (markingCompletes busError s) := by
  unfold markingCompletes
  split
  · exact (showWrites_keeps _ s).trans (markingDone_keeps _ _ _)
  · exact .refl s

theorem updateTeardown_keeps {P : Prop} (s : State) : Keeps P s (updateTeardown s) := by
  unfold updateTeardown
  split
  · exact .of_geometry rfl
  · exact .refl s

/-! ### Picks (R171 to R177) -/

/-- A slot takes a result point of the world range (R172). -/
theorem withPick_keeps {P : Prop} (i : PickId) (p : PickSlot) (s : State)
    (range : P → s.RangeLaw → p.point.inWorld = true) : Keeps P s (s.withPick i p) := by
  cases i
  · exact .of_range rfl rfl fun hp h =>
      { h with
        picks := fun j => by
          cases j with
          | pick0 => exact range hp h
          | pick1 => exact h.picks .pick1 }
  · exact .of_range rfl rfl fun hp h =>
      { h with
        picks := fun j => by
          cases j with
          | pick0 => exact h.picks .pick0
          | pick1 => exact range hp h }

/-- Writing an input leaves the result point (R171). -/
theorem PickSlot.store_point (p : PickSlot) (input : PickInput) (v : Word) : (p.store input v).point = p.point := by
  cases input <;> rfl

theorem startPick_keeps {P : Prop} (i : PickId) (s : State) : Keeps P s (startPick i s) :=
  (request_keeps _ _).after (withPick_keeps i _ s fun _ _ => rfl)

theorem writePick_keeps {P : Prop} (i : PickId) (input : PickInput) (v : Word) (s : State) :
    Keeps P s (writePick i input v s) := by
  unfold writePick
  dsimp only
  split_ifs
  · exact withPick_keeps i _ s fun _ h => h.picks i
  · exact startPick_keeps i s
  · exact .refl s
  · exact withPick_keeps i _ s fun _ h => by
      rw [PickSlot.store_point]
      exact h.picks i

/-- The best candidate of a search is a feature point of the world range (R172, R175). -/
theorem pickSearch_inWorld (p : PickSlot) (filters : Vector ClassFilter 4) (t : Table) (range : t.InRange) :
    (p.withResult (pickSearch p filters t)).point.inWorld = true := by
  cases best : pickSearch p filters t with
  | none => exact rfl
  | some k =>
    unfold pickSearch at best
    exact (candidates_offered _ _ _ _ _ k (bestCandidate_mem _ k best)).inWorld range

theorem completePick_keeps {P : Prop} (i : PickId) (s : State) : Keeps P s (completePick i s) := by
  unfold completePick
  refine (releaseGrant_keeps _).after ((raisePickDone_keeps i _).after (withPick_keeps i _ s fun _ h => ?_))
  have found := pickSearch_inWorld (s.pick i) s.active.filters s.table ⟨h.targets, h.window⟩
  generalize pickSearch (s.pick i) s.active.filters s.table = best at found ⊢
  exact found

theorem pickCompletes_keeps {P : Prop} (s : State) : Keeps P s (pickCompletes s) := by
  unfold pickCompletes
  split
  · split
    · exact completePick_keeps .pick0 s
    · exact .refl s
  · split
    · exact completePick_keeps .pick1 s
    · exact .refl s
  all_goals exact .refl s

theorem abortPick_keeps {P : Prop} (i : PickId) (s : State) : Keeps P s (abortPick i s) := by
  unfold abortPick
  dsimp only
  split
  · exact .refl s
  · exact (raisePickDone_keeps i _).after ((withPick_keeps i _ _ fun _ _ => rfl).after (withdraw_keeps _ s))

end Sys2Proof.Machine

/-! ## Ports, commands and the step (R179 to R183, R190) -/

namespace Sys2Proof.Machine

theorem resetEngine_keeps {P : Prop} (s : State) : Keeps P s (resetEngine s) := by
  unfold resetEngine
  refine (arbitrate_keeps _).after ((settleReset_keeps _).after ((resetUpdate_keeps _).after ?_))
  refine (abortPick_keeps _ _).after ((abortPick_keeps _ _).after ((emptyCapture_keeps _).after ?_))
  refine (resetBuilder_keeps _).after ((resetTool_keeps _).after ((resetLink_frame _).keeps.after ?_))
  exact .of_geometry rfl

theorem engineReset_keeps {P : Prop} (s : State) : Keeps P s (engineReset s) := by
  unfold engineReset
  split
  · exact resetEngine_keeps s
  · exact .refl s

theorem requestApply_keeps {P : Prop} (s : State) : Keeps P s (requestApply s) := .of_geometry rfl

theorem updateAck_keeps {P : Prop} (s : State) : Keeps P s (updateAck s) := .of_geometry rfl

/-- A write to COMMAND keeps the laws, whatever its code (R182). -/
theorem command_keeps {P : Prop} (code : Half) (s : State) : Keeps P s (command code s) := by
  unfold command
  split
  · exact engineReset_keeps s
  · exact (linkRestart_frame s).keeps
  · exact requestApply_keeps s
  · exact updateTeardown_keeps s
  · exact updateAck_keeps s
  · exact commitPop_keeps s
  · exact .refl s

theorem clearNotices_keeps {P : Prop} (port : PortId) (v : Word) (s : State) : Keeps P s (clearNotices port v s) := by
  cases port <;> exact .of_geometry rfl

theorem enableNotices_keeps {P : Prop} (port : PortId) (v : Word) (s : State) :
    Keeps P s (enableNotices port v s) := by
  cases port <;> exact .of_geometry rfl

theorem disableNotices_keeps {P : Prop} (port : PortId) (v : Word) (s : State) :
    Keeps P s (disableNotices port v s) := by
  cases port <;> exact .of_geometry rfl

theorem writeSubmitLo_keeps {P : Prop} (v : Half) (s : State) : Keeps P s (writeSubmitLo v s) := .of_geometry rfl

/-- The staged set is no part of the laws (R184). -/
theorem staged_keeps {P : Prop} (st : Settings) (s : State) : Keeps P s { s with staged := st } := .of_geometry rfl

theorem rewindStream_keeps {P : Prop} (s : State) : Keeps P s (rewindStream s) := .of_geometry rfl

theorem writeStagedView_keeps {P : Prop} (field : ViewField) (v : Word) (s : State) :
    Keeps P s (writeStagedView field v s) := .of_geometry rfl

/-- A DATA write of the application window keeps the laws at every location (R181, R195). -/
theorem writeApp_keeps {P : Prop} (loc : Nat) (v : Word) (s : State) : Keeps P s (writeApp loc v s) := by
  unfold writeApp
  split_ifs
  · exact command_keeps _ s
  · exact clearNotices_keeps _ _ s
  · exact enableNotices_keeps _ _ s
  · exact disableNotices_keeps _ _ s
  · exact writeSubmitLo_keeps _ s
  · exact (submit_frame _ s).keeps
  · exact commitPop_keeps s
  · split
    · exact writePick_keeps _ _ _ s
    · exact .refl s
  · exact staged_keeps _ s
  · exact .refl s

/-- A DATA write of the display window keeps the laws at every location (R181, R196). -/
theorem writeDisp_keeps {P : Prop} (loc : Nat) (v : Word) (s : State) : Keeps P s (writeDisp loc v s) := by
  unfold writeDisp
  split_ifs
  · exact clearNotices_keeps _ _ s
  · exact enableNotices_keeps _ _ s
  · exact disableNotices_keeps _ _ s
  · exact frameStart_keeps s
  · exact rewindStream_keeps s
  · split
    · exact writeStagedView_keeps _ v s
    · exact .refl s
  · split
    · exact writePick_keeps _ _ _ s
    · exact .refl s
  · exact .refl s

theorem portWrite_keeps {P : Prop} (port : PortId) (address : PortAddr) (v : Word) (s : State) :
    Keeps P s (portWrite port address v s) := by
  cases port <;> cases address
  case app.index => exact .of_geometry rfl
  case disp.index => exact .of_geometry rfl
  case app.data => exact (accessed_keeps _ _ _).after (writeApp_keeps _ v s)
  case disp.data => exact (accessed_keeps _ _ _).after (writeDisp_keeps _ v s)

theorem readApp_keeps {P : Prop} (loc : Nat) (s : State) : Keeps P s (readApp loc s) := by
  unfold readApp
  exact (accessed_keeps _ _ _).after (.of_geometry rfl)

theorem readDisp_keeps {P : Prop} (loc : Nat) (s : State) : Keeps P s (readDisp loc s) := by
  unfold readDisp
  refine (accessed_keeps _ _ _).after ?_
  split
  · exact readStream_keeps s
  · exact .of_geometry rfl

theorem portRead_keeps {P : Prop} (port : PortId) (address : PortAddr) (s : State) :
    Keeps P s (portRead port address s) := by
  cases port <;> cases address
  case app.index => exact .of_geometry rfl
  case disp.index => exact .of_geometry rfl
  case app.data => exact readApp_keeps _ s
  case disp.data => exact readDisp_keeps _ s

theorem writePickAt_keeps {P : Prop} (i : PickId) (input : PickInput) (v : Word) (s : State) :
    Keeps P s (writePickAt i input v s) := by
  unfold writePickAt
  split
  · exact .refl s
  · cases i
    case pick0 => exact (accessed_keeps _ _ _).after (writePick_keeps _ _ _ s)
    case pick1 => exact (accessed_keeps _ _ _).after (writePick_keeps _ _ _ s)

theorem powerOn_keeps {P : Prop} (s : State) : Keeps P s { State.reset with pending := s.pending } :=
  have queued : Keeps True State.reset { State.reset with pending := s.pending } := .of_geometry rfl
  ⟨fun _ => queued.table State.reset_tableLaw, fun _ _ => queued.range trivial State.reset_rangeLaw⟩

/-- Every command keeps the table's law and the world range. -/
theorem exec_keeps {P : Prop} (c : Instr) (s t : State) (h : exec c s = .next t) : Keeps P s t := by
  cases c <;> cases h
  case powerOn => exact powerOn_keeps s
  case byteArrival time sound byte => exact (takeByte_frame time sound byte s).keeps
  case gapExpiry time => exact (gapExpires_frame time s).keeps
  case presenceExpiry time device => exact (presenceExpires_frame time device s).keeps
  case engineReset => exact (accessed_keeps _ _ _).after (engineReset_keeps s)
  case linkRestart => exact (accessed_keeps _ _ _).after (linkRestart_frame s).keeps
  case apply => exact (accessed_keeps _ _ _).after (requestApply_keeps s)
  case updateTeardown => exact (accessed_keeps _ _ _).after (updateTeardown_keeps s)
  case updateAck => exact (accessed_keeps _ _ _).after (updateAck_keeps s)
  case commitPop => exact (accessed_keeps _ _ _).after (commitPop_keeps s)
  case submitHi value => exact (accessed_keeps _ _ _).after (submit_frame value s).keeps
  case fetchCompletion reply => exact fetchCompletes_keeps reply s
  case tableGrant => exact tableGrant_keeps s
  case cellApplication => exact cellApplies_keeps s
  case writeBackCompletion handleError controlError => exact writeBackCompletes_keeps handleError controlError s
  case markingCompletion busError => exact markingCompletes_keeps busError s
  case commitStart => exact tryCommitStart_keeps s
  case resolutionEnd => exact resolutionEnds_keeps s
  case buildStart => exact tryBuildStart_keeps s
  case buildCompletion => exact completeBuild_keeps s
  case frameStart => exact (accessed_keeps _ _ _).after (frameStart_keeps s)
  case stream => exact (accessed_keeps _ _ _).after (readStream_keeps s)
  case streamRewind => exact (accessed_keeps _ _ _).after (rewindStream_keeps s)
  case stagedViewWrite field value => exact (accessed_keeps _ _ _).after (writeStagedView_keeps field value s)
  case pickGo slot => exact writePickAt_keeps slot .go 1 s
  case pickBlockedWrite slot input value => exact writePickAt_keeps slot input value s
  case pickCompletion => exact pickCompletes_keeps s
  case noticeRaw port value => exact (accessed_keeps _ _ _).after (clearNotices_keeps port value s)
  case enableSet port value => exact (accessed_keeps _ _ _).after (enableNotices_keeps port value s)
  case enableClear port value => exact (accessed_keeps _ _ _).after (disableNotices_keeps port value s)
  case dataRead port address => exact portRead_keeps port address s
  case registerWrite port address value => exact portWrite_keeps port address value s

/-- Every step keeps the table's law and the world range: taking the command from the queue touches neither. -/
theorem step_keeps {P : Prop} (s t : State) (h : step s = .next t) : Keeps P s t := by
  unfold step at h
  split at h
  · cases h
    exact .refl s
  · rename_i c rest _
    exact (exec_keeps c _ t h).after (.of_geometry rfl)

end Sys2Proof.Machine

namespace Sys2Proof.Claims

open Sys2Proof.Machine

/-- Settles O7: every command changes table and points through operations that keep the two laws. -/
theorem everyStepKeepsTheTableLaw : Obligations.EveryStepKeepsTheTableLaw := fun s t h =>
  have kept := step_keeps (P := True) s t h
  ⟨kept.table, kept.range trivial⟩

end Sys2Proof.Claims

/-! ## Bytes of a report frame and the notices they raise (R26, R188, R191) -/

namespace Sys2Proof.Machine

open Sys2Proof.Claims

theorem exec_byteArrival (time : Nat) (sound : Bool) (b : Byte) (s : State) :
    exec (.byteArrival time sound b) s = .next (takeByte time sound b s) := rfl

theorem exec_gapExpiry (time : Nat) (s : State) : exec (.gapExpiry time) s = .next (gapExpires time s) := rfl

theorem exec_presenceExpiry (time : Nat) (device : Fin 8) (s : State) :
    exec (.presenceExpiry time device) s = .next (presenceExpires time device s) := rfl

theorem isMarker_eq (b : Byte) : isMarker b = decide (128 ≤ b.toNat) := BitVec.msb_eq_decide b

/-- The reserved bits of byte 0 are its low three (R191). -/
theorem reserved0Ok_eq (b : Byte) : reserved0Ok b = decide (b.toNat % 8 = 0) := by
  unfold reserved0Ok
  rw [Bool.eq_iff_iff, beq_iff_eq, ← BitVec.toNat_inj, decide_eq_true_iff, BitVec.extractLsb'_toNat]
  simp

/-- The reserved bits of byte 1 are the three above the buttons (R191). -/
theorem reserved1Ok_eq (b : Byte) (unmarked : b.toNat < 128) : reserved1Ok b = decide (b.toNat / 16 = 0) := by
  unfold reserved1Ok
  rw [Bool.eq_iff_iff, beq_iff_eq, ← BitVec.toNat_inj, decide_eq_true_iff, BitVec.extractLsb'_toNat,
    Nat.shiftRight_eq_div_pow]
  change b.toNat / 16 % 8 = 0 ↔ _
  omega

theorem noticeBits_cons (p : Bool × AppNotice) (l : List (Bool × AppNotice)) :
    noticeBits (p :: l) = (if p.1 then oneBit 14 p.2.bit else 0) ||| noticeBits l := by
  have from_word : ∀ (l : List (Bool × AppNotice)) (w : BitVec 14),
      l.foldl (fun w p => if p.1 then w ||| oneBit 14 p.2.bit else w) w = w ||| noticeBits l := by
    intro l
    induction l with
    | nil => exact fun w => (BitVec.or_zero).symm
    | cons q l ih =>
      intro w
      unfold noticeBits
      simp only [List.foldl_cons]
      rw [ih, ih]
      split <;> simp [BitVec.or_assoc]
  exact (from_word l _).trans (by simp)

@[simp] theorem noticeBits_nil : noticeBits [] = 0 := rfl

theorem raiseIf_eq_raised (u : NoticeUnit 14) (n : AppNotice) (b : Bool) :
    { u with raised := u.raised ||| (if b then oneBit 14 n.bit else 0) } = raised u [(b, n)] := by
  simp [raised, noticeBits_cons]

/-- A notice that is raised stays raised with those raised after it (R188). -/
theorem raised_raised (u : NoticeUnit 14) (p : Bool × AppNotice) (l : List (Bool × AppNotice)) :
    raised (raised u [p]) l = raised u (p :: l) := by
  simp [raised, noticeBits_cons, BitVec.or_assoc]

@[simp] theorem raised_nil (u : NoticeUnit 14) : raised u [] = u := by simp [raised]

@[simp] theorem raised_false_cons (u : NoticeUnit 14) (n : AppNotice) (l : List (Bool × AppNotice)) :
    raised u ((false, n) :: l) = raised u l := by
  simp [raised, noticeBits_cons]

/-! ## Link health (R32 to R35) -/

theorem setHealth_eq_withHealth (e : BitVec 8) (r : BitVec 7) (s : State) : setHealth e r s = withHealth e r s := by
  rw [setHealth_eq]
  by_cases changed : linkStateOf e = linkStateOf s.link.errors
  · simp [changed, withHealth, raised, noticeBits_cons, Link.state]
  · simp [changed, withHealth, raised, noticeBits_cons, Link.state, BitVec.or_assoc]

theorem frameError_eq (s : State) :
    frameError s = withHealth (afterError s.link.errors) 0 { s with link := { s.link with assembler := .hunt } } :=
  setHealth_eq_withHealth _ _ _

/-- Below OFFLINE a good frame lowers the counter; in OFFLINE it counts toward recovery (R32, R34). -/
theorem countGoodFrame_eq (s : State) : countGoodFrame s = withHealth (afterGood s.link).1 (afterGood s.link).2 s := by
  unfold countGoodFrame afterGood
  by_cases offline : s.link.state = .offline
  · by_cases last : s.link.run.toNat = 63
    · simp [offline, last, Config.recoveryRun, setHealth_eq_withHealth]
    · simp [offline, last, Config.recoveryRun, setHealth_eq_withHealth]
  · simp [offline, setHealth_eq_withHealth]

theorem linkStateOf_eq (errors : BitVec 8) : linkStateOf errors =
    if errors.toNat < 128 then .tracking else if errors.toNat < 255 then .degraded else .offline := by
  have ceiling := errors.isLt
  simp only [linkStateOf, Config.errorMax, Config.errorDegraded]
  by_cases offline : errors.toNat = 255
  · simp [offline]
  · by_cases tracking : errors.toNat < 128
    · simp [offline, tracking, Nat.not_le.2 tracking]
    · have degraded : errors.toNat < 255 := by omega
      simp [offline, tracking, Nat.not_lt.1 tracking, degraded]

/-! ## The frame assembler (R27 to R30) -/

theorem takeByte_hunt_discarded (time : Nat) (sound : Bool) (b : Byte) (s : State) (hunt : s.link.assembler = .hunt)
    (discarded : sound = false ∨ b.toNat < 128) : takeByte time sound b s = s := by
  unfold takeByte
  simp only [hunt, isMarker_eq]
  rcases discarded with rfl | unmarked
  · rfl
  · simp [Nat.not_le.2 unmarked]

theorem takeByte_hunt_marker (time : Nat) (b : Byte) (s : State) (hunt : s.link.assembler = .hunt)
    (marker : 128 ≤ b.toNat) : takeByte time true b s = startFrame time b s := by
  simp [takeByte, hunt, isMarker_eq, marker]

theorem takeByte_body_faulty (time : Nat) (b : Byte) (s : State) (held : List Byte) (gapAt : Nat)
    (body : s.link.assembler = .body held gapAt) : takeByte time false b s = frameError s := by
  simp [takeByte, body]

theorem takeByte_body_marker (time : Nat) (b : Byte) (s : State) (held : List Byte) (gapAt : Nat)
    (body : s.link.assembler = .body held gapAt) (marker : 128 ≤ b.toNat) :
    takeByte time true b s = startFrame time b (frameError s) := by
  simp [takeByte, body, isMarker_eq, marker]

theorem takeByte_body_unmarked (time : Nat) (b : Byte) (s : State) (held : List Byte) (gapAt : Nat)
    (body : s.link.assembler = .body held gapAt) (unmarked : b.toNat < 128) :
    takeByte time true b s = takeBodyByte time held b s := by
  simp [takeByte, body, isMarker_eq, Nat.not_le.2 unmarked]

/-- A marker byte is byte 0 when its reserved bits are good (R27). -/
theorem startFrame_good (time : Nat) (b : Byte) (s : State) (reserved : b.toNat % 8 = 0) :
    startFrame time b s = { s with link := { s.link with assembler := .body [b] (time + 4000) } } := by
  unfold startFrame
  rw [reserved0Ok_eq, if_pos (by simpa using reserved)]
  rfl

theorem startFrame_bad (time : Nat) (b : Byte) (s : State) (reserved : b.toNat % 8 ≠ 0) :
    startFrame time b s = frameError s := by
  simp [startFrame, reserved0Ok_eq, reserved]

/-- Before byte 6 a byte is held, unless it is byte 1 with bad reserved bits (R28). -/
theorem takeBodyByte_inside (time : Nat) (held : List Byte) (b : Byte) (s : State) (inside : held.length ≠ 6)
    (unmarked : b.toNat < 128) :
    takeBodyByte time held b s =
      if held.length = 1 ∧ b.toNat / 16 ≠ 0 then frameError s
      else { s with link := { s.link with assembler := .body (held ++ [b]) (time + 4000) } } := by
  unfold takeBodyByte
  split
  · exact absurd rfl inside
  · simp only [reserved1Ok_eq b unmarked, decide_eq_false_iff_not]
    rfl

/-- Byte 6 ends a good frame when it is the check of bytes 0 to 5 (R26, R28). -/
theorem takeBodyByte_last (time : Nat) (b0 b1 b2 b3 b4 b5 b : Byte) (s : State) :
    takeBodyByte time [b0, b1, b2, b3, b4, b5] b s =
      if b.toNat = frameCheck [b0, b1, b2, b3, b4, b5] then
        goodFrame time (frameOf b0 b1 b2 b3 b4 b5) (setAssembler .hunt s)
      else frameError s := rfl

theorem takeBodyByte_mismatch (time : Nat) (held : List Byte) (b : Byte) (s : State) (complete : held.length = 6)
    (mismatch : b.toNat ≠ (held.map BitVec.toNat).sum % 128) : takeBodyByte time held b s = frameError s := by
  unfold takeBodyByte
  split
  · exact if_neg mismatch
  · rename_i notSix
    match held, complete with
    | [b0, b1, b2, b3, b4, b5], _ => exact absurd rfl (notSix b0 b1 b2 b3 b4 b5)

theorem gapExpires_hunt (time : Nat) (s : State) (hunt : s.link.assembler = .hunt) : gapExpires time s = s := by
  simp [gapExpires, hunt]

theorem gapExpires_body (time : Nat) (s : State) (held : List Byte) (gapAt : Nat)
    (body : s.link.assembler = .body held gapAt) :
    gapExpires time s = if gapAt ≤ time then frameError s else s := by
  simp [gapExpires, body]

end Sys2Proof.Machine

namespace Sys2Proof.Claims

open Sys2Proof.Machine

/-- Settles O16, by the assembler's state and the kind of byte. -/
theorem soundBytesAreTakenIntoTheFrame : Obligations.SoundBytesAreTakenIntoTheFrame := by
  intro time b s
  refine ⟨fun hunt => ⟨fun sound discarded => ?_, fun marker reserved => ?_⟩,
    fun held gapAt body _ inside unmarked reserved => ?_⟩
  · rw [exec_byteArrival, takeByte_hunt_discarded time sound b s hunt discarded]
  · rw [exec_byteArrival, takeByte_hunt_marker time b s hunt marker, startFrame_good time b s reserved]
  · rw [exec_byteArrival, takeByte_body_unmarked time b s held gapAt body unmarked,
      takeBodyByte_inside time held b s (by omega) unmarked, if_neg fun bad => bad.2 (reserved bad.1)]

/-- Settles O17: every error is the one operation `frameError`; the rest is which byte or expiry makes it. -/
theorem frameErrorRaisesTheCounter : Obligations.FrameErrorRaisesTheCounter := by
  refine ⟨linkStateOf_eq, fun time b s => ?_⟩
  intro hunting once
  have error : frameError s = once := frameError_eq s
  refine ⟨fun hunt => ⟨?_, fun marker reserved => ?_⟩, fun held gapAt body => ⟨?_, ?_, ?_, ?_, ?_, ?_, ?_⟩⟩
  · rw [exec_gapExpiry, gapExpires_hunt time s hunt]
  · rw [exec_byteArrival, takeByte_hunt_marker time b s hunt marker, startFrame_bad time b s reserved, error]
  · rw [exec_byteArrival, takeByte_body_faulty time b s held gapAt body, error]
  · intro second unmarked reserved
    rw [exec_byteArrival, takeByte_body_unmarked time b s held gapAt body unmarked,
      takeBodyByte_inside time held b s (by omega) unmarked, if_pos ⟨second, reserved⟩, error]
  · intro complete unmarked mismatch
    rw [exec_byteArrival, takeByte_body_unmarked time b s held gapAt body unmarked,
      takeBodyByte_mismatch time held b s complete mismatch, error]
  · intro expired
    rw [exec_gapExpiry, gapExpires_body time s held gapAt body, if_pos expired, error]
  · intro early
    rw [exec_gapExpiry, gapExpires_body time s held gapAt body, if_neg (Nat.not_le.2 early)]
  · intro marker reserved
    rw [exec_byteArrival, takeByte_body_marker time b s held gapAt body marker, error,
      startFrame_good time b _ reserved]
  · intro marker reserved
    rw [exec_byteArrival, takeByte_body_marker time b s held gapAt body marker, error, startFrame_bad time b _ reserved,
      frameError_eq]
    rfl

end Sys2Proof.Claims

/-! ## Presence, and the frames that reach health and presence alone (R36 to R38) -/

namespace Sys2Proof.Machine

open Sys2Proof.Claims

theorem Presence.isPresent_eq (p : Presence) : p.isPresent = !decide (p = .absent) := by
  cases p <;> rfl

/-- A change of presence is noticed for the active device alone (R37). -/
theorem notePresenceChange_eq_raised (device : Fin 8) (changed : Bool) (s : State) :
    notePresenceChange device changed s =
      { s with
        appNotices := raised s.appNotices [(decide (changed = true ∧ device = s.active.device), .presenceChange)]
        builder := { s.builder with
          rebuild := s.builder.rebuild || decide (changed = true ∧ device = s.active.device) } } := by
  rw [notePresenceChange_eq, ← raiseIf_eq_raised]
  simp only [decide_eq_true_eq]

theorem markPresent_eq (time : Nat) (device : Fin 8) (s : State) :
    markPresent time device s =
      { s with
        link := { s.link with
          presence := s.link.presence.set device (.present (time + s.active.presenceTimeout.toNat * 50000)) }
        appNotices := raised s.appNotices
          [(decide (device = s.active.device ∧ s.link.presence[device] = .absent), .presenceChange)]
        builder := { s.builder with
          rebuild := s.builder.rebuild ||
            decide (device = s.active.device ∧ s.link.presence[device] = .absent) } } := by
  have timeout : s.active.presenceTime = s.active.presenceTimeout.toNat * 50000 := Nat.mul_assoc _ 50 1000
  unfold markPresent
  simp only [notePresenceChange_eq_raised, timeout, Presence.isPresent_eq, Bool.not_not, decide_eq_true_eq,
    and_comm (a := s.link.presence[device] = .absent)]
  rfl

theorem presenceExpires_present (time expiresAt : Nat) (device : Fin 8) (s : State)
    (present : s.link.presence[device] = .present expiresAt) :
    presenceExpires time device s = if expiresAt ≤ time then expirePresence device s else s := by
  simp only [presenceExpires, present]

/-- A device that is not active becomes ABSENT without any other effect (R36, R37). -/
theorem expirePresence_other (device : Fin 8) (s : State) (other : device ≠ s.active.device) :
    expirePresence device s =
      { s with link := { s.link with presence := s.link.presence.set device .absent } } := by
  simp [expirePresence, notePresenceChange, other, State.withLink]

/-- The loss of the active device is noticed and the cursor condition becomes NONE (R36, R37, R39, R42). -/
theorem expirePresence_active (expiresAt : Nat) (device : Fin 8) (s : State)
    (present : s.link.presence[device] = .present expiresAt) (active : device = s.active.device) :
    expirePresence device s =
      { s with
        link := { s.link with
          presence := s.link.presence.set device .absent
          condition := .none
          fValid := false
          buttons := if s.link.condition = .none then s.link.buttons else buttonsReleased }
        appNotices := raised s.appNotices [(true, .presenceChange)]
        builder := { s.builder with rebuild := true } } := by
  have isPresent : s.link.presence[device].isPresent = true := by rw [present]; rfl
  unfold expirePresence
  rw [isPresent]
  simp [notePresenceChange_eq_raised, active, cursorLost_eq, State.withLink]

/-- What a good frame of a device leaves when it reaches health and presence alone (R32, R36, R37). -/
def arrived (time : Nat) (device : Fin 8) (s : State) : State :=
  let health := withHealth (afterGood s.link).1 (afterGood s.link).2
    { s with link := { s.link with assembler := .hunt } }
  let change := decide (device = s.active.device ∧ s.link.presence[device] = .absent)
  { health with
    link := { health.link with
      presence := s.link.presence.set device (.present (time + s.active.presenceTimeout.toNat * 50000)) }
    appNotices := raised health.appNotices [(change, .presenceChange)]
    builder := { health.builder with rebuild := health.builder.rebuild || change } }

/-- Health and presence act before the cursor (R28, R32, R36). -/
theorem markPresent_countGoodFrame (time : Nat) (device : Fin 8) (s : State) :
    markPresent time device (countGoodFrame (setAssembler .hunt s)) = arrived time device s := by
  rw [countGoodFrame_eq, markPresent_eq]
  rfl

@[simp] theorem arrived_link (time : Nat) (device : Fin 8) (s : State) : (arrived time device s).link =
    { s.link with
      assembler := .hunt
      errors := (afterGood s.link).1
      run := (afterGood s.link).2
      presence := s.link.presence.set device (.present (time + s.active.presenceTimeout.toNat * 50000)) } := rfl

/-- A good frame acts on the cursor when the active device sends it and the link is not OFFLINE after it (R38). -/
theorem goodFrame_eq (time : Nat) (fr : Frame) (s : State) :
    goodFrame time fr (setAssembler .hunt s) =
      if fr.device = s.active.device ∧ linkStateOf (afterGood s.link).1 ≠ .offline then
        useFrame time fr (arrived time fr.device s)
      else arrived time fr.device s := by
  unfold goodFrame
  rw [markPresent_countGoodFrame]
  rfl

theorem frameDevice_eq (b0 : Byte) : frameDevice b0 = ⟨deviceOf b0, Nat.mod_lt _ (by decide)⟩ := by
  apply Fin.ext
  simp [frameDevice, deviceOf, Nat.shiftRight_eq_div_pow]

/-- Byte 6 of a good frame hands over the content of bytes 0 to 5 (R26, R28). -/
theorem exec_goodFrame (time : Nat) (b0 b1 b2 b3 b4 b5 b6 : Byte) (s : State)
    (good : GoodFrame s b0 b1 b2 b3 b4 b5 b6) :
    exec (.byteArrival time true b6) s =
      .next (goodFrame time (frameOf b0 b1 b2 b3 b4 b5) (setAssembler .hunt s)) := by
  obtain ⟨⟨gapAt, body⟩, unmarked, check⟩ := good
  have matched : b6.toNat = frameCheck [b0, b1, b2, b3, b4, b5] := by
    simp only [check, frameCheck, List.map_cons, List.map_nil, List.sum_cons, List.sum_nil]
    omega
  rw [exec_byteArrival, takeByte_body_unmarked time b6 s _ gapAt body unmarked, takeBodyByte_last, if_pos matched]

end Sys2Proof.Machine

/-! ## Commands by their code (R35, R93, R182, R185) -/

namespace Sys2Proof.Machine

open Sys2Proof.Claims

/-- The counter and the run are 0, which is TRACKING; a change to it is noticed (R33, R35). -/
theorem linkRestart_eq (s : State) :
    linkRestart s =
      { s with
        link := { s.link with errors := 0, run := 0, assembler := .hunt }
        appNotices := raised s.appNotices [(s.link.state != .tracking, .linkState)]
        builder := { s.builder with rebuild := s.builder.rebuild || s.link.state != .tracking } } := by
  have restarted : ∀ u : State, withHealth 0 0 u =
      { u with
        link := { u.link with errors := 0, run := 0 }
        appNotices := raised u.appNotices [(u.link.state != .tracking, .linkState)]
        builder := { u.builder with rebuild := u.builder.rebuild || u.link.state != .tracking } } := by
    intro u
    have tracking : linkStateOf 0#8 = .tracking := by decide
    simp [withHealth, tracking, raised, noticeBits_cons, Link.state, bne_comm (a := LinkState.tracking)]
  unfold linkRestart
  rw [setHealth_eq_withHealth, restarted]
  rfl

theorem updateTeardown_eq (s : State) :
    updateTeardown s =
      { s with update := { s.update with teardown := s.update.teardown || s.update.inFlight.isSome } } := by
  unfold updateTeardown
  by_cases flight : s.update.inFlight.isSome
  · simp [flight, State.withUpdate]
  · simp [flight]

/-- An access at COMMAND leaves INDEX there (R179). -/
theorem accessed_command (s : State) :
    accessed .app locCommand s = { s with ports := { s.ports with appIndex := 0 } } := rfl

theorem lowHalf_toNat (v : Word) : (lowHalf v).toNat = v.toNat % 65536 := by
  simp [lowHalf, BitVec.extractLsb'_toNat]

theorem exec_linkRestart (s : State) : exec .linkRestart s = .next (accessed .app locCommand (linkRestart s)) := rfl

theorem exec_updateTeardown (s : State) :
    exec .updateTeardown s = .next (accessed .app locCommand (updateTeardown s)) := rfl

theorem exec_writeAppData (v : Word) (s : State) : exec (.registerWrite .app .data v) s =
    .next (accessed .app s.ports.appIndex.toNat (writeApp s.ports.appIndex.toNat v s)) := rfl

/-- A DATA write at COMMAND issues the command of the value's low half (R181, R182). -/
theorem exec_write_command (v : Word) (s : State) (index : s.ports.appIndex = 0) :
    exec (.registerWrite .app .data v) s = .next (accessed .app locCommand (command (lowHalf v) s)) := by
  rw [exec_writeAppData, index]
  rfl

theorem command_ignored (code : Half) (s : State) (unassigned : code.toNat = 0 ∨ 6 < code.toNat) :
    command code s = s := by
  unfold command
  split
  case h_7 => rfl
  all_goals omega

end Sys2Proof.Machine

namespace Sys2Proof.Claims

open Sys2Proof.Machine

/-- Settles O18: a frame that is not used stops after presence. -/
theorem unusedFrameReachesHealthAndPresence : Obligations.UnusedFrameReachesHealthAndPresence := by
  intro time b0 b1 b2 b3 b4 b5 b6 s good health device s1 change unused
  have sender : (frameOf b0 b1 b2 b3 b4 b5).device = device := frameDevice_eq b0
  rw [exec_goodFrame time b0 b1 b2 b3 b4 b5 b6 s good, goodFrame_eq, sender,
    if_neg fun used => unused.elim (fun other => other used.1) used.2]
  rfl

/-- Settles O21, by the timer's time and by whether the device is the active one. -/
theorem presenceExpiryMakesTheDeviceAbsent : Obligations.PresenceExpiryMakesTheDeviceAbsent := by
  intro time expiresAt device s present
  rw [exec_presenceExpiry, presenceExpires_present time expiresAt device s present]
  refine ⟨fun early => ?_, fun expired other => ?_, fun expired active => ?_⟩
  · rw [if_neg (Nat.not_le.2 early)]
  · rw [if_pos expired, expirePresence_other device s other]
  · rw [if_pos expired, expirePresence_active expiresAt device s present active]
    rfl

/-- Settles O22: each command is its operation and the access at COMMAND, and a write there runs the same operation. -/
theorem commandsActByTheirCode : Obligations.CommandsActByTheirCode := by
  intro s v changed ports code
  refine ⟨?_, rfl, ?_, fun index => ?_⟩
  · rw [exec_linkRestart, linkRestart_eq]
    rfl
  · rw [exec_updateTeardown, updateTeardown_eq]
    rfl
  · intro write
    have issued : write = .next (accessed .app locCommand (command (lowHalf v) s)) := exec_write_command v s index
    have low : (lowHalf v).toNat = code := lowHalf_toNat v
    refine ⟨?_, ?_, ?_, ?_, ?_, ?_, fun unassigned => ?_⟩
    case refine_7 =>
      rw [issued, command_ignored _ s (low ▸ unassigned), accessed_command, ← index]
    all_goals
      intro is
      rw [issued, command, low, is]
      rfl

end Sys2Proof.Claims

/-! ## Used frames: condition, filter and buttons (R38 to R43) -/

namespace Sys2Proof.Machine

open Sys2Proof.Claims

theorem frameProximity_iff (b0 : Byte) : frameProximity b0 = true ↔ inProximity b0 := by
  have bit : frameProximity b0 = decide (b0.toNat / 2 ^ 3 % 2 = 1) := Nat.testBit_eq_decide_div_mod_eq
  rw [bit, decide_eq_true_iff]
  rfl

theorem frameButtons_getLsbD (b1 : Byte) (n : Fin 4) : (frameButtons b1).getLsbD n.val = b1.getLsbD n.val := by
  simp [frameButtons]

/-- A coordinate is the seven bits of its high byte above those of its low byte (R26). -/
theorem frameCoordinate_toNat (high low : Byte) :
    ((frameCoordinate high low).toNat : Int) = 128 * (high.toNat % 128) + low.toNat % 128 := by
  have lowBits : (low.extractLsb' 0 7).toNat < 2 ^ 7 := BitVec.isLt _
  unfold frameCoordinate
  rw [BitVec.toNat_append, ← Nat.shiftLeft_add_eq_or_of_lt lowBits, Nat.shiftLeft_eq, BitVec.extractLsb'_toNat,
    BitVec.extractLsb'_toNat, Nat.shiftRight_zero, Nat.shiftRight_zero]
  omega

/-- The device's setting names it, within its range (R38, R186). -/
theorem Settings.device_val (st : Settings) (legal : st.activeDevice.toNat < 8) :
    st.device.val = st.activeDevice.toNat := by
  have lowBits : st.device.val = st.activeDevice.toNat % 8 := by simp [Settings.device]
  omega

/-- One axis of F goes from f to f': it follows r at the distance h, and stays while it is within it (R40). -/
def FollowsAt (h r f f' : Int) : Prop :=
  (h < r - f → f' = r - h) ∧ (r - f < -h → f' = r + h) ∧ (-h ≤ r - f → r - f ≤ h → f' = f)

theorem filterAxis_followsAt (f r : BitVec 14) (h : Int) (nonneg : 0 ≤ h) :
    FollowsAt h r.toNat f.toNat (filterAxis f r h).toNat := by
  have hf := f.isLt
  have hr := r.isLt
  have inRange : ∀ v : Int, 0 ≤ v → v < 16384 → ((BitVec.ofInt 14 v).toNat : Int) = v := by
    intro v low high
    rw [BitVec.toNat_ofInt]
    omega
  unfold filterAxis FollowsAt
  dsimp only
  refine ⟨fun above => ?_, fun below => ?_, fun notBelow notAbove => ?_⟩
  · rw [if_pos above, inRange _ (by omega) (by omega)]
  · rw [if_neg (by omega), if_pos below, inRange _ (by omega) (by omega)]
  · rw [if_neg (by omega), if_neg (by omega)]

theorem holdBandOf_eq (s : State) :
    holdBandOf s = s.active.holdBand.toNat + if s.link.state = .degraded then 4 else 0 := rfl

theorem holdBandOf_nonneg (s : State) : 0 ≤ holdBandOf s := by
  rw [holdBandOf_eq]
  split_ifs <;> omega

/-- A transition is accepted when no accepted one is within the debounce time before it (R41). -/
theorem Button.after_accepted (b : Button) (shown : Bool) (time debounce : Nat) (transition : shown ≠ b.pressed)
    (settled : ∀ last, b.last = some last → last + debounce ≤ time) :
    b.after shown time debounce = ⟨shown, some time⟩ := by
  unfold Button.after
  rw [if_neg transition]
  split
  · rfl
  · rename_i last is
    exact if_pos (settled last is)

theorem Button.after_unaccepted (b : Button) (shown : Bool) (time debounce : Nat)
    (refused : ¬ (shown ≠ b.pressed ∧ ∀ last, b.last = some last → last + debounce ≤ time)) :
    b.after shown time debounce = b := by
  unfold Button.after
  split
  · rfl
  · rename_i transition
    split
    · rename_i never
      exact absurd ⟨transition, fun last is => by simp [never] at is⟩ refused
    · rename_i last is
      refine if_neg fun settled => refused ⟨transition, fun last' is' => ?_⟩
      cases is.symm.trans is'
      exact settled

theorem buttonsAfter_getElem (buttons : Vector Button 4) (shown : BitVec 4) (time debounce : Nat) (n : Fin 4) :
    (buttonsAfter buttons shown time debounce)[n] = buttons[n].after (shown.getLsbD n) time debounce := by
  simp [buttonsAfter]

/-- A bit of the pressed-button set is a button's press (R43). -/
theorem pressesBetween_getLsbD (before after : Vector Button 4) (n : Fin 4) :
    (pressesBetween before after).getLsbD n.val = (!before[n].pressed && after[n].pressed) := by
  have bits : ∀ (p : Fin 4 → Bool) (n : Fin 4),
      (BitVec.ofNat 4 (bitOf (p 0) * 2 ^ 0 + bitOf (p 1) * 2 ^ 1 + bitOf (p 2) * 2 ^ 2 + bitOf (p 3) * 2 ^ 3)).getLsbD
        n.val = p n := by
    decide
  exact bits (fun i => !before[i].pressed && after[i].pressed) n

/-- The button event queue after a frame that made an entry: an entry without buttons is none, and a full queue takes
none (R43). -/
def joinQueue (queue : List QueueEntry) (e : QueueEntry) : List QueueEntry :=
  if e.buttons ≠ 0 ∧ queue.length < 4 then queue ++ [e] else queue

/-- The presses that the buttons of a frame make (R41, R43). -/
def framePresses (time : Nat) (fr : Frame) (s : State) : BitVec 4 :=
  pressesBetween s.link.buttons (buttonsAfter s.link.buttons fr.buttons time s.active.debounceTime)

/-- An entry joins the queue, or is dropped with BUTTON_OVERRUN (R43). -/
theorem queuePress_eq (e : QueueEntry) (s : State) (pressed : e.buttons ≠ 0) :
    queuePress e s =
      { s with
        link := { s.link with queue := joinQueue s.link.queue e }
        appNotices := raised s.appNotices [(decide (4 ≤ s.link.queue.length), .buttonOverrun)] } := by
  unfold queuePress joinQueue Config.buttonQueueCap
  by_cases room : s.link.queue.length < 4
  · rw [if_pos room, if_pos ⟨pressed, room⟩, decide_eq_false (Nat.not_le.2 room), raised_false_cons, raised_nil]
    rfl
  · rw [if_neg room, if_neg fun taken => room taken.2, decide_eq_true (Nat.not_lt.1 room), ← raiseIf_eq_raised]
    rfl

theorem examineButtons_eq (time : Nat) (fr : Frame) (s : State) :
    examineButtons time fr s =
      { s with
        link := { s.link with
          buttons := buttonsAfter s.link.buttons fr.buttons time s.active.debounceTime
          queue := joinQueue s.link.queue ⟨framePresses time fr s, s.link.f, fr.r, s.link.report⟩ }
        appNotices := raised s.appNotices
          [(framePresses time fr s != 0 && decide (4 ≤ s.link.queue.length), .buttonOverrun)] } := by
  unfold examineButtons
  dsimp only
  change (if framePresses time fr s = 0 then _ else queuePress ⟨framePresses time fr s, _, _, _⟩ _) = _
  by_cases idle : framePresses time fr s = 0
  · simp [idle, joinQueue, State.withLink]
  · rw [if_neg idle, queuePress_eq _ _ idle, bne_iff_ne.2 idle, Bool.true_and]
    rfl

/-- A used frame out of proximity makes the condition OUT (R38, R39). -/
theorem useFrame_out (time : Nat) (fr : Frame) (s : State) (out : fr.proximity = false) :
    useFrame time fr s =
      { s with
        link := { s.link with report := s.link.report + 1, condition := .out }
        builder := { s.builder with rebuild := s.builder.rebuild || s.link.condition != .out } } := by
  unfold useFrame
  rw [if_neg (by simp [out])]
  rfl

/-- F after an in-proximity used frame (R40). -/
def frameFilter (fr : Frame) (s : State) : TabletPoint :=
  filterNext (s.link.condition != .inside) s.link.f fr.r (holdBandOf s)

/-- A used frame in proximity makes the condition IN, moves F, latches R and examines the buttons (R38 to R43). -/
theorem useFrame_in (time : Nat) (fr : Frame) (s : State) (near : fr.proximity = true) :
    useFrame time fr s =
      { s with
        link := { s.link with
          report := s.link.report + 1
          condition := .inside
          f := frameFilter fr s
          fValid := true
          rawLatch := fr.r
          buttons := buttonsAfter s.link.buttons fr.buttons time s.active.debounceTime
          queue := joinQueue s.link.queue ⟨framePresses time fr s, frameFilter fr s, fr.r, s.link.report + 1⟩ }
        appNotices := raised s.appNotices
          [(framePresses time fr s != 0 && decide (4 ≤ s.link.queue.length), .buttonOverrun)]
        builder := { s.builder with
          rebuild := s.builder.rebuild || (s.link.condition != .inside || frameFilter fr s != s.link.f) } } := by
  unfold useFrame
  rw [if_pos near]
  unfold useFrameIn
  dsimp only
  rw [examineButtons_eq]
  rfl

theorem frameFilter_seed (fr : Frame) (s : State) (seed : s.link.condition ≠ .inside) : frameFilter fr s = fr.r := by
  simp [frameFilter, filterNext, seed]

/-- Inside proximity each axis of F follows R by the hold band (R40). -/
theorem frameFilter_followsAt (fr : Frame) (s : State) (inside : s.link.condition = .inside) :
    ∀ axis ∈ [TabletPoint.x, TabletPoint.y],
      FollowsAt (holdBandOf s) (axis fr.r).toNat (axis s.link.f).toNat (axis (frameFilter fr s)).toNat := by
  have move : frameFilter fr s =
      ⟨filterAxis s.link.f.x fr.r.x (holdBandOf s), filterAxis s.link.f.y fr.r.y (holdBandOf s)⟩ := by
    simp [frameFilter, filterNext, inside]
  rw [move]
  exact List.forall_mem_cons.2 ⟨filterAxis_followsAt _ _ _ (holdBandOf_nonneg s),
    List.forall_mem_singleton.2 (filterAxis_followsAt _ _ _ (holdBandOf_nonneg s))⟩

/-- A good frame of the active device under TRACKING or DEGRADED is used, after health and presence (R32, R38). -/
theorem exec_usedFrame (time : Nat) (b0 b1 b2 b3 b4 b5 b6 : Byte) (s : State)
    (good : GoodFrame s b0 b1 b2 b3 b4 b5 b6) (sender : deviceOf b0 = s.active.device.val)
    (online : linkStateOf (afterGood s.link).1 ≠ .offline) :
    exec (.byteArrival time true b6) s =
      .next (useFrame time (frameOf b0 b1 b2 b3 b4 b5) (arrived time s.active.device s)) := by
  have device : (frameOf b0 b1 b2 b3 b4 b5).device = s.active.device :=
    (frameDevice_eq b0).trans (Fin.ext sender)
  rw [exec_goodFrame time b0 b1 b2 b3 b4 b5 b6 s good, goodFrame_eq, device, if_pos ⟨rfl, online⟩]

/-- The arrival of the active device is noticed after health and before what the cursor raises (R33, R37). -/
theorem raised_arrived_active (time : Nat) (s : State) (l : List (Bool × AppNotice)) :
    raised (arrived time s.active.device s).appNotices l =
      raised (withHealth (afterGood s.link).1 (afterGood s.link).2 s).appNotices
        ((decide (s.link.presence[s.active.device] = .absent), .presenceChange) :: l) := by
  rw [← raised_raised]
  simp only [arrived, true_and]
  rfl

theorem arrived_active_rebuild (time : Nat) (s : State) :
    (arrived time s.active.device s).builder.rebuild =
      ((withHealth (afterGood s.link).1 (afterGood s.link).2 s).builder.rebuild ||
        decide (s.link.presence[s.active.device] = .absent)) := by
  simp only [arrived, true_and]
  rfl

theorem oneBit_getLsbD (k i : Nat) (inWord : i < 14) : (oneBit 14 k).getLsbD i = decide (k = i) := by
  rw [oneBit, BitVec.getLsbD_ofNat, Nat.testBit_two_pow, decide_eq_true inWord, Bool.true_and]

/-- A raised flag was raised before or is one of those raised now (R188). -/
theorem raised_getLsbD (u : NoticeUnit 14) (p : Bool × AppNotice) (l : List (Bool × AppNotice)) (i : Nat)
    (inWord : i < 14) :
    (raised u (p :: l)).raised.getLsbD i = ((raised u l).raised.getLsbD i || (p.1 && decide (p.2.bit = i))) := by
  obtain ⟨raises, n⟩ := p
  cases raises
  · simp
  · simp [raised, noticeBits_cons, oneBit_getLsbD _ _ inWord, Bool.or_assoc, Bool.or_comm]

end Sys2Proof.Machine

namespace Sys2Proof.Claims

open Sys2Proof.Machine

/-- Settles O19: health and presence first, then the cursor out of or in proximity. -/
theorem usedFrameMovesTheCursor : Obligations.UsedFrameMovesTheCursor := by
  refine ⟨Settings.device_val, fun time b0 b1 b2 b3 b4 b5 b6 s good sender online => ?_⟩
  refine ⟨_, exec_usedFrame time b0 b1 b2 b3 b4 b5 b6 s good sender online, ?_⟩
  by_cases near : inProximity b0
  · rw [useFrame_in time _ _ ((frameProximity_iff b0).2 near)]
    refine ⟨rfl, rfl, rfl, rfl, rfl, rfl, ⟨?_, _, fun out => absurd near out, raised_arrived_active time s _⟩,
      fun out => absurd near out,
      fun _ => ⟨rfl, rfl, frameCoordinate_toNat b2 b3, frameCoordinate_toNat b4 b5, fun fresh => ?_, fun inside => ?_⟩⟩
    · dsimp only
      rw [arrived_active_rebuild, arrived_link, bne_comm, Bool.or_assoc _ (_ != _)]
    · exact frameFilter_seed _ (arrived time _ s) fresh
    · exact frameFilter_followsAt _ (arrived time _ s) inside
  · have out : (frameOf b0 b1 b2 b3 b4 b5).proximity = false :=
      Bool.eq_false_iff.2 fun inside => near ((frameProximity_iff b0).1 inside)
    rw [useFrame_out time _ _ out]
    refine ⟨rfl, rfl, rfl, rfl, rfl, rfl, ⟨?_, false, fun _ => rfl, ?_⟩, fun _ => ⟨rfl, rfl, rfl, rfl, rfl, rfl⟩,
      fun inside => absurd inside near⟩
    · dsimp only
      rw [arrived_active_rebuild, arrived_link, bne_comm, bne_self_eq_false, Bool.or_false]
    · rw [← raised_arrived_active, raised_false_cons, raised_nil]

/-- Settles O20: the buttons one by one, then the entry their presses make. -/
theorem acceptedPressesMakeOneEntry : Obligations.AcceptedPressesMakeOneEntry := by
  intro time b0 b1 b2 b3 b4 b5 b6 s t good sender online near run
  rw [exec_usedFrame time b0 b1 b2 b3 b4 b5 b6 s good sender online,
    useFrame_in time _ _ ((frameProximity_iff b0).2 near)] at run
  injection run with run
  have buttons (n : Fin 4) : t.link.buttons[n] =
      (s.link.buttons[n]).after (b1.getLsbD n.val) time (s.active.debounce.toNat * 1000) := by
    rw [← run, ← frameButtons_getLsbD b1 n]
    exact buttonsAfter_getElem _ _ _ _ n
  have queue : t.link.queue = joinQueue s.link.queue
      ⟨pressesBetween s.link.buttons t.link.buttons, t.link.f, t.link.rawLatch, t.link.report⟩ := by
    rw [← run]
    rfl
  have notices : t.appNotices = raised (arrived time s.active.device s).appNotices
      [(pressesBetween s.link.buttons t.link.buttons != 0 && decide (4 ≤ s.link.queue.length), .buttonOverrun)] := by
    rw [← run]
    rfl
  clear run
  refine ⟨fun n => ?_, ?_⟩
  · intro old shown accepted
    rw [buttons n]
    exact ⟨fun h => Button.after_accepted _ _ _ _ h.1 h.2, fun h => Button.after_unaccepted _ _ _ _ h⟩
  · intro presses
    refine ⟨pressesBetween_getLsbD _ _, fun idle => ?_, fun pressed room => ?_, fun pressed full => ?_, ?_⟩
    · rw [queue]
      exact if_neg fun taken => taken.1 idle
    · rw [queue]
      exact if_pos ⟨pressed, room⟩
    · rw [queue]
      exact if_neg fun taken => absurd taken.2 (Nat.not_lt.2 full)
    · rw [notices, raised_arrived_active]
      simp only [withHealth, raised_getLsbD _ _ _ 6 (by decide : 6 < 14), raised_nil, AppNotice.bit]
      simp [presses]

end Sys2Proof.Claims

/-! ## What the arbiter's law speaks of (R75 to R77, R99, R114) -/

namespace Sys2Proof.Machine

/-! ### Requests -/

theorem Requests.get_set (w : Requests) (r x : Requester) (v : Bool) :
    (w.set r v).get x = if x = r then v else w.get x := by
  cases r <;> cases x <;> rfl

/-- A requester that does not wait has no request to take away. -/
theorem Requests.set_false (w : Requests) (r : Requester) (h : w.get r = false) : w.set r false = w := by
  obtain ⟨commit, build, update, pick0, pick1⟩ := w
  cases r <;> cases h <;> rfl

/-- The cyclic order of a position names every turn (R76). -/
theorem Turn.mem_order (turn x : Turn) : x ∈ turn.order := by
  cases turn <;> cases x <;> decide

theorem Requester.eq_commit_or_turn (r : Requester) : r = .commit ∨ ∃ x : Turn, r = x.requester := by
  cases r with
  | commit => exact .inl rfl
  | build => exact .inr ⟨.build, rfl⟩
  | update => exact .inr ⟨.update, rfl⟩
  | pick0 => exact .inr ⟨.pick0, rfl⟩
  | pick1 => exact .inr ⟨.pick1, rfl⟩

/-- The next grant goes to a waiting requester (R76). -/
theorem Arbiter.next_waits (a : Arbiter) (r : Requester) (h : a.next = some r) : a.waiting.get r = true := by
  unfold Arbiter.next at h
  split at h
  · rename_i commit
    cases h
    exact commit
  · exact List.find?_some h

/-- No grant is due exactly while nobody waits (R76). -/
theorem Arbiter.next_eq_none (a : Arbiter) : a.next = none ↔ ∀ r, a.waiting.get r = false := by
  unfold Arbiter.next
  split
  · rename_i commit
    exact ⟨fun h => (nomatch h), fun h => absurd (h .commit) (by simp [Requests.get, commit])⟩
  · rename_i commit
    simp only [List.find?_eq_none, List.mem_map, Bool.not_eq_true]
    refine ⟨fun h r => ?_, fun h r _ => h r⟩
    rcases r.eq_commit_or_turn with rfl | ⟨x, rfl⟩
    · exact Bool.eq_false_iff.2 commit
    · exact h _ ⟨x, a.turn.mem_order x, rfl⟩

/-! ### Access to the table, requester by requester -/

/-- The pieces of state that the arbiter's law speaks of. -/
structure Access where
  arbiter : Arbiter
  commit : Option CommitInHand
  phase : Option BuildPhase
  stage : Option Stage
  resolving : Bool
  emptying : Bool
  pick0 : PickControl
  pick1 : PickControl

def State.access (s : State) : Access where
  arbiter := s.arbiter
  commit := s.tool.commit
  phase := s.builder.build.map Build.phase
  stage := s.stage
  resolving := s.resolver.resolution.isSome
  emptying := s.resolver.emptying
  pick0 := s.pick0.control
  pick1 := s.pick1.control

/-- A requester has an operation that waits for its grant or is under it (R75). -/
def Access.outstanding (a : Access) : Requester → Bool
  | .commit => a.commit.isSome
  | .build => (a.phase.map BuildPhase.needsTable).getD false
  | .update => (a.stage.map Stage.needsTable).getD false
  | .pick0 => a.pick0 != .idle
  | .pick1 => a.pick1 != .idle

/-- A requester is at work under its grant (R75). -/
def Access.begun (a : Access) : Requester → Bool
  | .commit => (a.commit.map CommitInHand.resolving).getD false
  | .build => (a.phase.map BuildPhase.isResolving).getD false
  | .update => (a.stage.map Stage.isApplying).getD false
  | .pick0 => a.pick0 == .searching
  | .pick1 => a.pick1 == .searching

theorem State.access_outstanding (s : State) (r : Requester) : s.access.outstanding r = s.outstanding r := by
  cases r <;> simp [Access.outstanding, State.outstanding, State.access, Function.comp_def]

theorem State.access_begun (s : State) (r : Requester) : s.access.begun r = s.begun r := by
  cases r <;> simp [Access.begun, State.begun, State.access, Function.comp_def]

/-- The arbiter's law for one requester (R75): its operation is outstanding exactly while it waits or holds the grant,
never both; it is at work under its grant alone, and UPDATE and the picks as soon as they hold it. -/
structure Access.Owns (a : Access) (r : Requester) : Prop where
  owned : a.outstanding r = (a.arbiter.waiting.get r || a.arbiter.holder == some r)
  single : a.arbiter.holder = some r → a.arbiter.waiting.get r = false
  begun : a.begun r = true → a.arbiter.holder = some r
  entered : r ≠ .commit → r ≠ .build → a.arbiter.holder = some r → a.begun r = true

/-- The arbiter's law about resolutions (R99, R114, R130). -/
structure Access.ResolverLaw (a : Access) : Prop where
  resolution : a.resolving = (a.begun .commit || a.begun .build)
  emptying : a.emptying = true → a.resolving = true
  buttons : ∀ c, a.commit = some c → c.resolving = true → c.button = .place ∨ c.button = .aux

/-- The arbiter's law before the next grant is made: the table may be free while somebody waits, and a drag cell may wait
for a commit that has ended. -/
structure Access.OwnLaw (a : Access) : Prop where
  owns : ∀ r, a.Owns r
  resolver : a.ResolverLaw

/-- A drag cell waits only for a commit in progress (R87). -/
def Access.DragLaw (a : Access) : Prop :=
  ∀ c, a.stage = some (.waiting c) → isTableOp c.op = false → a.arbiter.holder = some .commit

/-- The table is free only while nobody waits (R76). -/
def Arbiter.FreeLaw (a : Arbiter) : Prop := a.holder = none → ∀ r, a.waiting.get r = false

theorem State.grantLaw_iff (s : State) :
    s.GrantLaw ↔ s.access.OwnLaw ∧ s.access.DragLaw ∧ s.arbiter.FreeLaw := by
  refine ⟨fun h => ⟨⟨fun r => ⟨?_, h.single r, ?_, ?_⟩, ⟨?_, h.emptying, h.buttons⟩⟩, h.drag, h.free⟩,
    fun ⟨⟨owns, resolver⟩, drag, free⟩ =>
      ⟨free, fun r => ?_, fun r => (owns r).single, fun r => ?_, fun r => ?_, ?_,
      resolver.emptying, resolver.buttons, drag⟩⟩
  · rw [s.access_outstanding]
    exact h.owned r
  · rw [s.access_begun]
    exact h.begun r
  · rw [s.access_begun]
    exact h.entered r
  · rw [s.access_begun, s.access_begun]
    exact h.resolution
  · rw [← s.access_outstanding]
    exact (owns r).owned
  · rw [← s.access_begun]
    exact (owns r).begun
  · rw [← s.access_begun]
    exact (owns r).entered
  · rw [← s.access_begun, ← s.access_begun]
    exact resolver.resolution

/-- The law depends on nothing but the access to the table. -/
theorem State.GrantLaw.of_access {s t : State} (h : s.GrantLaw) (same : t.access = s.access) : t.GrantLaw := by
  have arbiter : t.arbiter = s.arbiter := congrArg Access.arbiter same
  rw [State.grantLaw_iff] at *
  rwa [same, arbiter]

/-! ### Changes at one requester -/

/-- The law speaks of operations, requests and the grant alone. -/
theorem Access.OwnLaw.congr {a b : Access} (h : a.OwnLaw) (outstanding : b.outstanding = a.outstanding)
    (begun : b.begun = a.begun) (arbiter : b.arbiter = a.arbiter) (resolver : b.ResolverLaw) : b.OwnLaw := by
  refine ⟨fun r => ⟨?_, ?_, ?_, ?_⟩, resolver⟩
  · rw [outstanding, arbiter]
    exact (h.owns r).owned
  · rw [arbiter]
    exact (h.owns r).single
  · rw [begun, arbiter]
    exact (h.owns r).begun
  · rw [begun, arbiter]
    exact (h.owns r).entered

/-- Nothing about the operations of the requesters other than r differs. -/
def Access.Apart (r : Requester) (a b : Access) : Prop :=
  ∀ x, x ≠ r → b.outstanding x = a.outstanding x ∧ b.begun x = a.begun x

/-- A requester's operation is read off its own piece of state. -/
theorem Access.apart {a b : Access} {r : Requester} (commit : r ≠ .commit → b.commit = a.commit)
    (phase : r ≠ .build → b.phase = a.phase) (stage : r ≠ .update → b.stage = a.stage)
    (pick0 : r ≠ .pick0 → b.pick0 = a.pick0) (pick1 : r ≠ .pick1 → b.pick1 = a.pick1) : Access.Apart r a b := by
  intro x other
  cases x with
  | commit => simp only [Access.outstanding, Access.begun, commit other.symm, and_self]
  | build => simp only [Access.outstanding, Access.begun, phase other.symm, and_self]
  | update => simp only [Access.outstanding, Access.begun, stage other.symm, and_self]
  | pick0 => simp only [Access.outstanding, Access.begun, pick0 other.symm, and_self]
  | pick1 => simp only [Access.outstanding, Access.begun, pick1 other.symm, and_self]

theorem Access.apart_commit {a b : Access} (phase : b.phase = a.phase) (stage : b.stage = a.stage)
    (pick0 : b.pick0 = a.pick0) (pick1 : b.pick1 = a.pick1) : Access.Apart .commit a b :=
  Access.apart (absurd rfl) (fun _ => phase) (fun _ => stage) (fun _ => pick0) (fun _ => pick1)

theorem Access.apart_build {a b : Access} (commit : b.commit = a.commit) (stage : b.stage = a.stage)
    (pick0 : b.pick0 = a.pick0) (pick1 : b.pick1 = a.pick1) : Access.Apart .build a b :=
  Access.apart (fun _ => commit) (absurd rfl) (fun _ => stage) (fun _ => pick0) (fun _ => pick1)

theorem Access.apart_update {a b : Access} (commit : b.commit = a.commit) (phase : b.phase = a.phase)
    (pick0 : b.pick0 = a.pick0) (pick1 : b.pick1 = a.pick1) : Access.Apart .update a b :=
  Access.apart (fun _ => commit) (fun _ => phase) (absurd rfl) (fun _ => pick0) (fun _ => pick1)

theorem Access.apart_pick0 {a b : Access} (commit : b.commit = a.commit) (phase : b.phase = a.phase)
    (stage : b.stage = a.stage) (pick1 : b.pick1 = a.pick1) : Access.Apart .pick0 a b :=
  Access.apart (fun _ => commit) (fun _ => phase) (fun _ => stage) (absurd rfl) (fun _ => pick1)

theorem Access.apart_pick1 {a b : Access} (commit : b.commit = a.commit) (phase : b.phase = a.phase)
    (stage : b.stage = a.stage) (pick0 : b.pick0 = a.pick0) : Access.Apart .pick1 a b :=
  Access.apart (fun _ => commit) (fun _ => phase) (fun _ => stage) (fun _ => pick0) (absurd rfl)

/-- The law of the other requesters stays when neither their operations, nor their requests, nor their grant change. -/
theorem Access.OwnLaw.owns_change {a b : Access} (r : Requester) (h : a.OwnLaw) (apart : Access.Apart r a b)
    (waiting : ∀ x, x ≠ r → b.arbiter.waiting.get x = a.arbiter.waiting.get x)
    (holder : ∀ x, x ≠ r → (b.arbiter.holder = some x ↔ a.arbiter.holder = some x)) (own : b.Owns r)
    (x : Requester) :
    b.Owns x := by
  by_cases e : x = r
  · rw [e]
    exact own
  · obtain ⟨owned, single, begun, entered⟩ := h.owns x
    obtain ⟨outstanding, atWork⟩ := apart x e
    refine ⟨?_, ?_, ?_, ?_⟩
    · rw [outstanding, waiting x e, owned]
      congr 1
      rw [Bool.eq_iff_iff, beq_iff_eq, beq_iff_eq]
      exact (holder x e).symm
    · rw [waiting x e, holder x e]
      exact single
    · rw [atWork, holder x e]
      exact begun
    · rw [atWork, holder x e]
      exact entered

/-- An operation that is not outstanding is not at work. -/
theorem Access.begun_le (a : Access) (r : Requester) (h : a.outstanding r = false) : a.begun r = false := by
  cases r with
  | commit =>
    cases e : a.commit <;> simp_all [Access.outstanding, Access.begun]
  | build =>
    cases e : a.phase with
    | none => simp [Access.begun, e]
    | some p => cases p <;> simp_all [Access.outstanding, Access.begun, BuildPhase.needsTable, BuildPhase.isResolving]
  | update =>
    cases e : a.stage with
    | none => simp [Access.begun, e]
    | some p => cases p <;> simp_all [Access.outstanding, Access.begun, Stage.needsTable, Stage.isApplying]
  | pick0 => simp_all [Access.outstanding, Access.begun]
  | pick1 => simp_all [Access.outstanding, Access.begun]

theorem Access.OwnLaw.idle {a : Access} (h : a.OwnLaw) {r : Requester} (idle : a.outstanding r = false) :
    a.arbiter.waiting.get r = false ∧ a.arbiter.holder ≠ some r := by
  have owned := (h.owns r).owned
  rw [idle, eq_comm, Bool.or_eq_false_iff, beq_eq_false_iff_ne] at owned
  exact owned

theorem Access.OwnLaw.held {a : Access} (h : a.OwnLaw) {r : Requester} (holder : a.arbiter.holder = some r) :
    a.outstanding r = true := by
  rw [(h.owns r).owned, holder]
  simp

/-- What an operation that is not outstanding leaves a requester without: a request and the grant. -/
theorem Access.Owns.of_idle {a : Access} {r : Requester} (idle : a.outstanding r = false)
    (waiting : a.arbiter.waiting.get r = false) (holder : a.arbiter.holder ≠ some r) : a.Owns r where
  owned := by simp [idle, waiting, holder]
  single e := absurd e holder
  begun e := absurd e (by simp [a.begun_le r idle])
  entered _ _ e := absurd e holder

/-- An operation that needs no table takes another course that needs none. -/
theorem Access.OwnLaw.aside {a b : Access} (r : Requester) (h : a.OwnLaw) (apart : Access.Apart r a b)
    (arbiter : b.arbiter = a.arbiter) (before : a.outstanding r = false) (after : b.outstanding r = false)
    (resolver : b.ResolverLaw) : b.OwnLaw := by
  obtain ⟨waiting, holder⟩ := h.idle before
  refine ⟨h.owns_change r apart (by simp [arbiter]) (by simp [arbiter]) (.of_idle after ?_ ?_), resolver⟩
  · rwa [arbiter]
  · rwa [arbiter]

/-- An operation comes up and its request arrives (R75). -/
theorem Access.OwnLaw.request {a b : Access} (r : Requester) (h : a.OwnLaw) (apart : Access.Apart r a b)
    (arbiter : b.arbiter = { a.arbiter with waiting := a.arbiter.waiting.set r true })
    (before : a.outstanding r = false) (after : b.outstanding r = true) (still : b.begun r = false)
    (resolver : b.ResolverLaw) : b.OwnLaw := by
  obtain ⟨-, holder⟩ := h.idle before
  have same : b.arbiter.holder = a.arbiter.holder := by rw [arbiter]
  rw [← same] at holder
  refine ⟨h.owns_change r apart (fun x other => ?_) (by simp [arbiter])
    ⟨?_, fun e => absurd e holder, fun e => absurd e (by simp [still]), fun _ _ e => absurd e holder⟩, resolver⟩
  · simp [arbiter, Requests.get_set, other]
  · simp [arbiter, Requests.get_set, after]

/-- The arbiter when a requester gives up its request and its grant (R77). -/
def Arbiter.without (a : Arbiter) (r : Requester) : Arbiter :=
  ⟨if a.holder = some r then none else a.holder, a.waiting.set r false, a.turn⟩

/-- An operation ends, and its request or grant with it (R76, R77). -/
theorem Access.OwnLaw.leave {a b : Access} (r : Requester) (h : a.OwnLaw) (apart : Access.Apart r a b)
    (arbiter : b.arbiter = a.arbiter.without r) (after : b.outstanding r = false) (resolver : b.ResolverLaw) :
    b.OwnLaw := by
  refine ⟨h.owns_change r apart (fun x other => ?_) (fun x other => ?_) (.of_idle after ?_ ?_), resolver⟩
  · simp [arbiter, Arbiter.without, Requests.get_set, other]
  · rw [arbiter]
    by_cases e : a.arbiter.holder = some r
    · simp [Arbiter.without, e, other.symm]
    · simp [Arbiter.without, e]
  · simp [arbiter, Arbiter.without, Requests.get_set]
  · rw [arbiter]
    by_cases e : a.arbiter.holder = some r
    · simp [Arbiter.without, e]
    · simp [Arbiter.without, e]

/-- The holder gives its grant back: nothing of its own waits (R76). -/
theorem Access.OwnLaw.without_holder {a : Access} {r : Requester} (h : a.OwnLaw) (held : a.arbiter.holder = some r) :
    a.arbiter.without r = { a.arbiter with holder := none } := by
  unfold Arbiter.without
  rw [if_pos held, a.arbiter.waiting.set_false r ((h.owns r).single held)]

/-- The operation of the grant's holder begins (R76). -/
theorem Access.OwnLaw.begin {a b : Access} (r : Requester) (h : a.OwnLaw) (apart : Access.Apart r a b)
    (arbiter : b.arbiter = a.arbiter) (held : a.arbiter.holder = some r) (after : b.outstanding r = true)
    (atWork : b.begun r = true) (resolver : b.ResolverLaw) : b.OwnLaw := by
  refine ⟨h.owns_change r apart (by simp [arbiter]) (by simp [arbiter])
    ⟨?_, fun _ => ?_, fun _ => ?_, fun _ _ _ => atWork⟩, resolver⟩
  · simp [arbiter, held, after]
  · rw [arbiter]
    exact (h.owns r).single held
  · rw [arbiter, held]

/-- The grant is made to a waiting requester (R76). -/
theorem Access.OwnLaw.grant {a b : Access} (r : Requester) (h : a.OwnLaw) (apart : Access.Apart r a b)
    (free : a.arbiter.holder = none)
    (arbiter : b.arbiter = ⟨some r, a.arbiter.waiting.set r false, a.arbiter.turn.after r⟩)
    (after : b.outstanding r = true) (entered : r ≠ .commit → r ≠ .build → b.begun r = true)
    (resolver : b.ResolverLaw) : b.OwnLaw := by
  refine ⟨h.owns_change r apart (fun x other => ?_) (fun x other => ?_)
    ⟨?_, fun _ => ?_, fun _ => ?_, fun c b _ => entered c b⟩, resolver⟩
  · simp [arbiter, Requests.get_set, other]
  · simp [arbiter, free, other.symm]
  · simp [arbiter, after]
  · simp [arbiter, Requests.get_set]
  · rw [arbiter]

/-- The law about resolutions speaks of commit, build and resolver alone. -/
theorem Access.ResolverLaw.congr {a b : Access} (h : a.ResolverLaw) (commit : b.commit = a.commit)
    (phase : b.phase = a.phase) (resolving : b.resolving = a.resolving) (emptying : b.emptying = a.emptying) :
    b.ResolverLaw := by
  have sameCommit : b.begun .commit = a.begun .commit := by simp only [Access.begun, commit]
  have sameBuild : b.begun .build = a.begun .build := by simp only [Access.begun, phase]
  refine ⟨?_, ?_, ?_⟩
  · rw [resolving, sameCommit, sameBuild]
    exact h.resolution
  · rw [emptying, resolving]
    exact h.emptying
  · rw [commit]
    exact h.buttons

end Sys2Proof.Machine

/-! ## Grants, requests and releases under the arbiter's law (R76, R77, R148 to R152) -/

namespace Sys2Proof.Machine

/-! ### The next grant -/

/-- Nobody waits and the table is free: the cell in hand does not wait for it. -/
theorem Access.OwnLaw.waiting_cell {a : Access} (h : a.OwnLaw) (free : a.arbiter.holder = none)
    (waits : a.arbiter.waiting.get .update = true) : ∃ c, a.stage = some (.waiting c) ∧ isTableOp c.op = true := by
  have outstanding : a.outstanding .update = true := by simp [(h.owns .update).owned, waits]
  have still : a.begun .update = false := by
    by_contra begun
    exact absurd ((h.owns .update).begun (by simpa using begun)) (by simp [free])
  cases e : a.stage with
  | none => simp [Access.outstanding, e] at outstanding
  | some stage =>
    cases stage <;> simp_all [Access.outstanding, Access.begun, Stage.needsTable, Stage.isApplying]

theorem grantTo_update (s : State) (c : Cell) (h : s.stage = some (.waiting c)) :
    (grantTo .update s).access =
      { s.access with
        arbiter := ⟨some .update, s.arbiter.waiting.set .update false, .update⟩
        stage := some (.granted c) } := by
  unfold State.stage at h
  obtain ⟨f, inFlight, stage⟩ := Option.map_eq_some_iff.1 h
  obtain ⟨list, applied, cell, st⟩ := f
  cases stage
  simp [grantTo, enterGrant, inFlight, State.access, State.stage, Turn.after]

/-- A grant due keeps the law, and ends the waiting of the one it goes to (R76). -/
theorem grantTo_ownLaw (r : Requester) (s : State) (h : s.access.OwnLaw) (free : s.arbiter.holder = none)
    (waits : s.arbiter.waiting.get r = true) : (grantTo r s).access.OwnLaw := by
  have outstanding : s.access.outstanding r = true := by
    rw [(h.owns r).owned, show s.access.arbiter = s.arbiter from rfl, waits, Bool.true_or]
  cases r with
  | commit =>
    exact h.grant .commit (Access.apart_commit rfl rfl rfl rfl) free rfl outstanding (fun e => absurd rfl e)
      (h.resolver.congr rfl rfl rfl rfl)
  | build =>
    exact h.grant .build (Access.apart_build rfl rfl rfl rfl) free rfl outstanding (fun _ e => absurd rfl e)
      (h.resolver.congr rfl rfl rfl rfl)
  | pick0 =>
    exact h.grant .pick0 (Access.apart_pick0 rfl rfl rfl rfl) free rfl rfl (fun _ _ => rfl)
      (h.resolver.congr rfl rfl rfl rfl)
  | pick1 =>
    exact h.grant .pick1 (Access.apart_pick1 rfl rfl rfl rfl) free rfl rfl (fun _ _ => rfl)
      (h.resolver.congr rfl rfl rfl rfl)
  | update =>
    obtain ⟨c, stage, -⟩ := h.waiting_cell free waits
    rw [grantTo_update s c stage]
    exact h.grant .update (Access.apart_update rfl rfl rfl rfl) free rfl rfl (fun _ _ => rfl)
      (h.resolver.congr rfl rfl rfl rfl)

theorem grantTo_holder (r : Requester) (s : State) : (grantTo r s).arbiter.holder = some r := by
  obtain ⟨f, p, q, h⟩ := grantTo_frame r s
  rw [h]

/-- A grant leaves no drag cell waiting that did not wait before (R85). -/
theorem grantTo_dragLaw (r : Requester) (s : State) (h : s.access.DragLaw) (free : s.arbiter.holder = none) :
    (grantTo r s).access.DragLaw := by
  intro c stage drag
  have before : s.stage = some (.waiting c) := by
    cases r with
    | update =>
      unfold grantTo enterGrant State.access State.stage at stage
      dsimp only at stage
      split at stage
      · cases stage
      · exact stage
    | commit => exact stage
    | build => exact stage
    | pick0 => exact stage
    | pick1 => exact stage
  have held : s.arbiter.holder = some .commit := h c before drag
  exact absurd (held.symm.trans free) (by simp)

/-- Once the next grant is made the table is free only while nobody waits (R76). -/
theorem arbitrate_grantLaw (s : State) (h : s.access.OwnLaw) (drag : s.access.DragLaw) : (arbitrate s).GrantLaw := by
  rw [State.grantLaw_iff]
  rcases arbitrate_cases s with ⟨e, held | idle⟩ | ⟨r, free, next, e⟩
  · rw [e]
    exact ⟨h, drag, fun free => absurd free held⟩
  · rw [e]
    exact ⟨h, drag, fun _ => s.arbiter.next_eq_none.1 idle⟩
  · rw [e]
    refine ⟨grantTo_ownLaw r s h free (s.arbiter.next_waits r next), grantTo_dragLaw r s drag free, fun free' => ?_⟩
    exact absurd ((grantTo_holder r s).symm.trans free') (by simp)

/-- Under the law no grant is due (R76). -/
theorem State.GrantLaw.arbitrate_eq {s : State} (h : s.GrantLaw) : arbitrate s = s := by
  rcases arbitrate_cases s with ⟨e, -⟩ | ⟨r, free, next, -⟩
  · exact e
  · exact absurd (s.arbiter.next_waits r next) (by simp [h.free free])

/-- A request by a requester whose operation has come up (R75, R76). -/
theorem request_grantLaw (r : Requester) (s : State)
    (h : Access.OwnLaw { s.access with
      arbiter := { s.arbiter with waiting := s.arbiter.waiting.set r true } })
    (drag : s.access.DragLaw) : (request r s).GrantLaw :=
  arbitrate_grantLaw (s.withArbiter { s.arbiter with waiting := s.arbiter.waiting.set r true }) h drag

/-! ### Builds and releases -/

theorem LinkFrame.access {s t : State} (h : LinkFrame s t) : t.access = s.access := by
  obtain ⟨l, n, r, rfl⟩ := h
  rfl

theorem takeApply_access (s : State) : (takeApply s).access = s.access := by
  obtain ⟨l, n, c, d, h⟩ := takeApply_frame s
  rw [h]
  rfl

theorem emptyCapture_access (s : State) :
    (emptyCapture s).access = { s.access with emptying := s.resolver.emptying || s.resolver.resolution.isSome } := by
  rw [emptyCapture_eq]
  rfl

/-- An emptying of the capture waits only for a resolution in progress (R114). -/
theorem emptyCapture_ownLaw (s : State) (h : s.access.OwnLaw) : (emptyCapture s).access.OwnLaw := by
  rw [emptyCapture_access]
  refine h.congr rfl rfl rfl ⟨h.resolver.resolution, fun waits => ?_, h.resolver.buttons⟩
  rcases Bool.or_eq_true_iff.1 waits with before | now
  · exact h.resolver.emptying before
  · exact now

/-- The state in which a build has taken its bank (steps 3 to 5 of R148). -/
def withBuild (bank : Fin 3) (s : State) : State :=
  { s with builder := { s.builder with
      rebuild := false
      banks := setBankState s.builder.banks bank .building
      build := some ⟨bank, s.builder.counter + 1, takeSnapshot s, buildSort (takeSnapshot s),
        firstPhase (buildSort (takeSnapshot s)) s.table.generation⟩ } }

theorem beginBuild_eq_afterSnapshot (bank : Fin 3) (s : State) :
    beginBuild bank s = afterSnapshot (buildSort (takeSnapshot s)) (withBuild bank s) := beginBuild_eq bank s

theorem withBuild_access (bank : Fin 3) (s : State) :
    (withBuild bank s).access =
      { s.access with phase := some (firstPhase (buildSort (takeSnapshot s)) s.table.generation) } := rfl

/-- A build without a grant in its course leaves the law as it is (R151). -/
theorem Access.OwnLaw.composing {a : Access} (h : a.OwnLaw) (idle : a.outstanding .build = false)
    (result : Option Resolution) (gen : Half) :
    Access.OwnLaw { a with phase := some (.composing result gen) } := by
  refine h.aside .build (Access.apart_build rfl rfl rfl rfl) rfl idle rfl ⟨?_, h.resolver.emptying, h.resolver.buttons⟩
  have still := a.begun_le .build idle
  rw [h.resolver.resolution, still]
  rfl

/-- A cursor build comes up with its request (R151, R152). -/
theorem Access.OwnLaw.build_waits {a : Access} (h : a.OwnLaw) (idle : a.outstanding .build = false) :
    Access.OwnLaw { a with
      arbiter := { a.arbiter with waiting := a.arbiter.waiting.set .build true }, phase := some .waiting } := by
  refine h.request .build (Access.apart_build rfl rfl rfl rfl) rfl idle rfl rfl
    ⟨?_, h.resolver.emptying, h.resolver.buttons⟩
  have still := a.begun_le .build idle
  rw [h.resolver.resolution, still]
  rfl

/-- A build start with no build at the table keeps the law, but for the grant due (R148 to R152). -/
theorem beginBuild_ownLaw (bank : Fin 3) (s : State) (h : s.access.OwnLaw) (drag : s.access.DragLaw)
    (idle : s.access.outstanding .build = false) :
    (beginBuild bank s).access.OwnLaw ∧ (beginBuild bank s).access.DragLaw ∧
      (s.arbiter.FreeLaw → (beginBuild bank s).arbiter.FreeLaw) := by
  have started := withBuild_access bank s
  rw [beginBuild_eq_afterSnapshot]
  cases sort : buildSort (takeSnapshot s) with
  | cursor c mode =>
    rw [sort] at started
    have granted : (request .build (withBuild bank s)).GrantLaw :=
      request_grantLaw .build _ (by rw [started]; exact h.build_waits idle) (by rw [started]; exact drag)
    obtain ⟨own, drag, free⟩ := (State.grantLaw_iff _).1 granted
    exact ⟨own, drag, fun _ => free⟩
  | menu window cell =>
    rw [sort] at started
    have composes : (withBuild bank s).access.OwnLaw := by
      rw [started]
      exact h.composing idle none _
    change (emptyCapture (withBuild bank s)).access.OwnLaw ∧ (emptyCapture (withBuild bank s)).access.DragLaw ∧
      (_ → (emptyCapture (withBuild bank s)).arbiter.FreeLaw)
    refine ⟨emptyCapture_ownLaw _ composes, ?_, fun free => ?_⟩
    · rw [emptyCapture_access, started]
      exact drag
    · rw [emptyCapture_eq]
      exact free
  | absent =>
    rw [sort] at started
    change (withBuild bank s).access.OwnLaw ∧ (withBuild bank s).access.DragLaw ∧
      (_ → (withBuild bank s).arbiter.FreeLaw)
    rw [started]
    exact ⟨h.composing idle none _, drag, id⟩

theorem makeBuildStart_ownLaw (s : State) (h : s.access.OwnLaw) (drag : s.access.DragLaw)
    (idle : s.access.outstanding .build = false) :
    (makeBuildStart s).access.OwnLaw ∧ (makeBuildStart s).access.DragLaw ∧
      (s.arbiter.FreeLaw → (makeBuildStart s).arbiter.FreeLaw) := by
  unfold makeBuildStart
  split
  · exact ⟨h, drag, id⟩
  · have applied : State.access (if s.applyPending then takeApply s else s) = s.access := by
      split
      · exact takeApply_access s
      · rfl
    rw [← applied] at h drag idle
    have arbiter : State.arbiter (if s.applyPending then takeApply s else s) = s.arbiter :=
      congrArg Access.arbiter applied
    rw [← arbiter]
    exact beginBuild_ownLaw _ _ h drag idle

theorem buildDue_idle (s : State) (due : buildDue s = true) : s.access.outstanding .build = false := by
  simp only [buildDue, Bool.and_eq_true, Option.isNone_iff_eq_none] at due
  obtain ⟨⟨-, noBuild⟩, -⟩ := due
  simp [Access.outstanding, State.access, noBuild]

/-- A release meets the law when the operation that ends has left (R76, R149). -/
theorem releaseGrant_grantLaw (s : State)
    (h : Access.OwnLaw { s.access with arbiter := { s.arbiter with holder := none } })
    (drag : Access.DragLaw { s.access with arbiter := { s.arbiter with holder := none } }) :
    (releaseGrant s).GrantLaw := by
  have freed : (freeHolder s).access = { s.access with arbiter := { s.arbiter with holder := none } } := rfl
  rw [← freed] at h drag
  unfold releaseGrant
  dsimp only
  split
  · rename_i due
    obtain ⟨law, drag, -⟩ := makeBuildStart_ownLaw _ h drag (buildDue_idle _ (Bool.and_eq_true_iff.1 due).1)
    exact arbitrate_grantLaw _ law drag
  · exact arbitrate_grantLaw _ h drag

theorem tryBuildStart_grantLaw (s : State) (h : s.GrantLaw) : (tryBuildStart s).GrantLaw := by
  unfold tryBuildStart
  split_ifs with idle
  · exact h
  · exact h
  · rw [State.grantLaw_iff] at h
    obtain ⟨own, drag, free⟩ := h
    obtain ⟨own, drag, free'⟩ := makeBuildStart_ownLaw s own drag (buildDue_idle s (by simpa using idle))
    exact (State.grantLaw_iff _).2 ⟨own, drag, free' free⟩

end Sys2Proof.Machine

/-! ## Commits and builds keep the arbiter's law (R99, R114, R126 to R130, R152) -/

namespace Sys2Proof.Machine

/-! ### The end of an operation under its grant -/

/-- The access when no resolution is in progress and no emptying of the capture waits. -/
def Access.unresolved (a : Access) : Access := { a with resolving := false, emptying := false }

/-- Without a commit or a build at work no resolution is in progress (R99). -/
theorem Access.ResolverLaw.unresolved_eq {a : Access} (h : a.ResolverLaw) (commit : a.begun .commit = false)
    (build : a.begun .build = false) : a.unresolved = a := by
  have off : a.resolving = false := by rw [h.resolution, commit, build]; rfl
  have settled : a.emptying = false := by
    by_contra waits
    exact absurd (h.emptying (by simpa using waits)) (by simp [off])
  obtain ⟨arbiter, c, phase, stage, resolving, emptying, pick0, pick1⟩ := a
  cases off
  cases settled
  rfl

/-- Another requester than the holder is not at work (R75). -/
theorem Access.OwnLaw.begun_of_other {a : Access} (h : a.OwnLaw) {r x : Requester} (held : a.arbiter.holder = some r)
    (other : x ≠ r) : a.begun x = false := by
  by_contra begun
  have := (h.owns x).begun (by simpa using begun)
  rw [held] at this
  exact other (Option.some.inj this).symm

/-- The commit under the grant ends, and its resolution with it (R127). -/
theorem Access.OwnLaw.commit_ends {a : Access} (h : a.OwnLaw) (held : a.arbiter.holder = some .commit) :
    Access.OwnLaw { a.unresolved with commit := none, arbiter := { a.arbiter with holder := none } } := by
  refine h.leave .commit (Access.apart_commit rfl rfl rfl rfl) (h.without_holder held).symm rfl
    ⟨?_, fun e => (nomatch e), fun c e => (nomatch e)⟩
  exact (h.begun_of_other held (x := .build) (by simp)).symm

/-- The resolution of the build under the grant ends (R152). -/
theorem Access.OwnLaw.build_ends {a : Access} (h : a.OwnLaw) (held : a.arbiter.holder = some .build)
    (result : Option Resolution) (gen : Half) :
    Access.OwnLaw { a.unresolved with
      phase := some (.composing result gen), arbiter := { a.arbiter with holder := none } } := by
  refine h.leave .build (Access.apart_build rfl rfl rfl rfl) (h.without_holder held).symm rfl
    ⟨?_, fun e => (nomatch e), h.resolver.buttons⟩
  have still : Access.begun a .commit = false := h.begun_of_other held (by simp)
  show false = (Access.begun a .commit || false)
  rw [still]
  rfl

/-- Under the grant of another requester than COMMIT no drag cell waits (R87). -/
theorem Access.DragLaw.of_other {a b : Access} (h : a.DragLaw) {r : Requester} (held : a.arbiter.holder = some r)
    (other : r ≠ .commit) (stage : b.stage = a.stage) : b.DragLaw := by
  intro c waits drag
  have := h c (stage ▸ waits) drag
  rw [held] at this
  exact absurd (Option.some.inj this) other

/-! ### Commits (R126 to R130) -/

/-- A stage of a list that neither waits for the table nor is under its grant. -/
def Stage.aside (st : Option Stage) : Prop := (st.map Stage.needsTable).getD false = false

/-- A list keeps aside of the table (R83 to R89). -/
theorem Access.OwnLaw.list_aside {a : Access} (h : a.OwnLaw) (before : Stage.aside a.stage) {st : Option Stage}
    (after : Stage.aside st) : Access.OwnLaw { a with stage := st } :=
  h.aside .update (Access.apart_update rfl rfl rfl rfl) rfl before after (h.resolver.congr rfl rfl rfl rfl)

/-- The drag cell that waited for the commit makes its change, and none is left waiting (R87). -/
theorem applyWaitingDrag_access (s : State) :
    ∃ st, (applyWaitingDrag s).access = { s.access with stage := st } ∧
      (∀ c, st = some (.waiting c) → isTableOp c.op = true) ∧
      (st = s.stage ∨ Stage.aside s.stage ∧ Stage.aside st) := by
  unfold applyWaitingDrag
  split
  · rename_i list applied cell c inFlight
    have stage : s.stage = some (.waiting c) := by simp [State.stage, inFlight]
    split
    · rename_i tableOp
      refine ⟨s.stage, rfl, fun c' e => ?_, .inl rfl⟩
      rw [stage] at e
      cases e
      exact tableOp
    · rename_i drag
      rw [applyDrag_eq]
      refine ⟨some (.writingBack c none (writeBackControl c (dragOutcome s.tool.drag c).2)), rfl,
        fun c' e => (nomatch e), .inr ⟨?_, rfl⟩⟩
      rw [stage]
      exact Bool.eq_false_iff.2 drag
  · rename_i other
    refine ⟨s.stage, rfl, fun c e => ?_, .inl rfl⟩
    obtain ⟨f, inFlight, stage⟩ := Option.map_eq_some_iff.1 e
    obtain ⟨list, applied, cell, st⟩ := f
    cases stage
    exact absurd inFlight (other list applied cell c)

theorem settleReset_access (s : State) : (settleReset s).access = s.access := by
  rcases settleReset_cases s with ⟨-, -, -, h⟩ | h
  · rw [h]
    rfl
  · rw [h]

theorem handlePress_access (c : CommitInHand) (s : State) : (handlePress c s).access = s.access := by
  rw [handlePress_eq]
  rfl

/-- A commit that ends, before its grant is released: the press is handled, a waiting drag cell makes its change, a reset
makes its event (R87, R126, R145). -/
def commitLeft (c : CommitInHand) (s : State) : State :=
  let s := applyWaitingDrag (handlePress c (s.withTool { s.tool with commit := none }))
  settleReset (if s.engine = .resetting then toolResetEvent s else s)

/-- The end of a commit comes down to the release of its grant (R126, R127). -/
theorem endCommit_eq_releaseGrant (c : CommitInHand) (s : State) : endCommit c s = releaseGrant (commitLeft c s) := rfl

theorem commitLeft_access (c : CommitInHand) (s : State) :
    ∃ st, (commitLeft c s).access = { s.access with commit := none, stage := st } ∧
      (∀ c, st = some (.waiting c) → isTableOp c.op = true) ∧
      (st = s.stage ∨ Stage.aside s.stage ∧ Stage.aside st) := by
  obtain ⟨st, access, drag, moved⟩ :=
    applyWaitingDrag_access (handlePress c (s.withTool { s.tool with commit := none }))
  have handled : (handlePress c (s.withTool { s.tool with commit := none })).access = { s.access with commit := none } :=
    handlePress_access c _
  rw [handled] at access
  rw [show (handlePress c (s.withTool { s.tool with commit := none })).stage = s.stage from
    congrArg Access.stage handled] at moved
  refine ⟨st, ?_, drag, moved⟩
  unfold commitLeft
  dsimp only
  rw [settleReset_access]
  split
  · exact access
  · exact access

/-- The end of a commit under its grant keeps the law (R126, R127). -/
theorem endCommit_grantLaw (c : CommitInHand) (s u : State) (h : s.access.OwnLaw)
    (held : s.arbiter.holder = some .commit) (same : u.access = s.access.unresolved) : (endCommit c u).GrantLaw := by
  obtain ⟨st, access, drag, moved⟩ := commitLeft_access c u
  have arbiter : u.arbiter = s.arbiter := congrArg Access.arbiter same
  have stage : u.stage = s.stage := congrArg Access.stage same
  have law : Access.OwnLaw { s.access.unresolved with
      commit := none, stage := st, arbiter := { s.arbiter with holder := none } } := by
    have left := h.commit_ends held
    rcases moved with kept | ⟨before, after⟩
    · rw [kept, stage]
      exact left
    · rw [stage] at before
      exact left.list_aside before after
  have freed : { (commitLeft c u).access with arbiter := { (commitLeft c u).arbiter with holder := none } } =
      { s.access.unresolved with commit := none, stage := st, arbiter := { s.arbiter with holder := none } } := by
    rw [show (commitLeft c u).arbiter = s.arbiter from (congrArg Access.arbiter access).trans arbiter, access, same]
  rw [endCommit_eq_releaseGrant]
  refine releaseGrant_grantLaw _ ?_ ?_
  · rw [freed]
    exact law
  · rw [freed]
    intro c' waits tableOp
    exact absurd (drag c' waits) (by simp [tableOp])

/-- A resolution begins under the commit's grant (R100, R130). -/
theorem commitResolution_grantLaw (c : CommitInHand) (mode : Mode) (s : State) (h : s.GrantLaw)
    (held : s.arbiter.holder = some .commit) (button : c.button = .place ∨ c.button = .aux) :
    (commitResolution c mode s).GrantLaw := by
  obtain ⟨own, drag, free⟩ := (State.grantLaw_iff s).1 h
  refine (State.grantLaw_iff _).2 ⟨?_, drag, free⟩
  refine own.begin (b := { s.access with commit := some { c with resolving := true }, resolving := true }) .commit
    (Access.apart_commit rfl rfl rfl rfl) rfl held rfl rfl ⟨rfl, fun _ => rfl, fun c' e _ => ?_⟩
  cases e
  exact button

/-- A commit that has passed the refusal tests (R130 to R136). -/
theorem commitAccepted_grantLaw (c : CommitInHand) (s : State) (h : s.GrantLaw)
    (held : s.arbiter.holder = some .commit) (unresolved : s.access.unresolved = s.access) :
    (commitAccepted c s).GrantLaw := by
  have own := ((State.grantLaw_iff s).1 h).1
  have withoutPoint : ∀ kind e, (commitWithoutPoint c kind e s).GrantLaw := fun kind e =>
    endCommit_grantLaw c s _ own held unresolved.symm
  have point : c.button = .place ∨ c.button = .aux → (commitPoint c s).GrantLaw := by
    intro button
    unfold commitPoint
    split
    · refine endCommit_grantLaw c s _ own held ?_
      show (emptyCapture s).access = _
      have resolving : s.access.resolving = false := congrArg Access.resolving unresolved.symm
      have emptying : s.access.emptying = false := congrArg Access.emptying unresolved.symm
      rw [emptyCapture_access, show s.resolver.resolution.isSome = false from resolving,
        show s.resolver.emptying = false from emptying, unresolved]
      exact unresolved ▸ rfl
    · exact commitResolution_grantLaw c _ s h held button
  unfold commitAccepted
  split
  · exact withoutPoint _ _
  · exact withoutPoint _ _
  · exact point (.inl ‹_›)
  · exact point (.inr ‹_›)

/-- A commit begins under its grant (R127). -/
theorem beginCommit_grantLaw (c : CommitInHand) (s : State) (h : s.GrantLaw) (held : s.arbiter.holder = some .commit)
    (commit : s.tool.commit = some c) (fresh : c.resolving = false) : (beginCommit c s).GrantLaw := by
  have applied : State.access (if s.applyPending then takeApply s else s) = s.access := by
    split
    · exact takeApply_access s
    · rfl
  have own := ((State.grantLaw_iff s).1 h).1
  have unresolved : s.access.unresolved = s.access :=
    own.resolver.unresolved_eq (by simp [Access.begun, State.access, commit, fresh])
      (own.begun_of_other held (by simp))
  unfold beginCommit
  dsimp only
  split
  · exact endCommit_grantLaw c s _ own held (applied.trans unresolved.symm)
  · refine commitAccepted_grantLaw c _ (h.of_access applied) ?_ ?_
    · rw [show State.arbiter _ = s.arbiter from congrArg Access.arbiter applied]
      exact held
    · rw [applied]
      exact unresolved

theorem beginGrantedCommit_grantLaw (s : State) (h : s.GrantLaw) (held : s.arbiter.holder = some .commit) :
    (beginGrantedCommit s).GrantLaw := by
  unfold beginGrantedCommit
  split
  · rename_i commit
    exact beginCommit_grantLaw _ s h held commit rfl
  · exact h

/-- A commit comes up with its request (R126). -/
theorem tryCommitStart_grantLaw (s : State) (h : s.GrantLaw) : (tryCommitStart s).GrantLaw := by
  obtain ⟨own, drag, -⟩ := (State.grantLaw_iff s).1 h
  unfold tryCommitStart
  split
  · rename_i e rest _ noCommit _
    split
    · rename_i button _
      refine request_grantLaw .commit _ (own.request .commit (Access.apart_commit rfl rfl rfl rfl) rfl ?_ rfl rfl
        ⟨?_, own.resolver.emptying, fun c commit resolving => ?_⟩) drag
      · simp [Access.outstanding, State.access, noCommit]
      · have still : s.access.begun .commit = false := by simp [Access.begun, State.access, noCommit]
        have resolution := own.resolver.resolution
        rw [still] at resolution
        exact resolution
      · cases commit
        cases resolving
    · exact h
  · exact h

/-! ### Builds (R148 to R152, R163) -/

theorem beginBuildResolution_grantLaw (s : State) (h : s.GrantLaw) (held : s.arbiter.holder = some .build) :
    (beginBuildResolution s).GrantLaw := by
  obtain ⟨own, drag, free⟩ := (State.grantLaw_iff s).1 h
  unfold beginBuildResolution
  split
  · refine (State.grantLaw_iff _).2 ⟨?_, drag, free⟩
    refine own.begin (b := { s.access with phase := some .resolving, resolving := true }) .build
      (Access.apart_build rfl rfl rfl rfl) rfl held rfl rfl ⟨?_, fun _ => rfl, own.resolver.buttons⟩
    exact (Bool.or_true _).symm
  · exact h

theorem completeBuild_grantLaw (s : State) (h : s.GrantLaw) : (completeBuild s).GrantLaw := by
  obtain ⟨own, drag, free⟩ := (State.grantLaw_iff s).1 h
  unfold completeBuild
  split
  · rename_i bank number snap sort result gen build
    have composing : s.access.phase = some (.composing result gen) := by simp [State.access, build]
    refine (State.grantLaw_iff _).2 ⟨?_, drag, free⟩
    refine own.aside (b := { s.access with phase := none }) .build (Access.apart_build rfl rfl rfl rfl) rfl
      (by simp [Access.outstanding, composing, BuildPhase.needsTable]) rfl
        ⟨?_, own.resolver.emptying, own.resolver.buttons⟩
    have resolution := own.resolver.resolution
    rw [show s.access.begun .build = false by simp [Access.begun, composing, BuildPhase.isResolving]] at resolution
    exact resolution
  · exact h

/-! ### TABLE_GRANT and RESOLUTION_END (R76, R120) -/

theorem beginGrantedCell_grantLaw (s : State) (h : s.GrantLaw) (held : s.arbiter.holder = some .update) :
    (beginGrantedCell s).GrantLaw := by
  obtain ⟨own, drag, free⟩ := (State.grantLaw_iff s).1 h
  rcases beginGrantedCell_cases s with ⟨list, applied, cell, c, -, e⟩ | e
  · rw [e]
    refine (State.grantLaw_iff _).2 ⟨?_, fun c e => (nomatch e), free⟩
    exact own.begin (b := { s.access with stage := some (.applying c) }) .update
      (Access.apart_update rfl rfl rfl rfl) rfl held rfl rfl (own.resolver.congr rfl rfl rfl rfl)
  · rw [e]
    exact h

theorem tableGrant_grantLaw (s : State) (h : s.GrantLaw) : (tableGrant s).GrantLaw := by
  unfold tableGrant
  rw [h.arbitrate_eq]
  dsimp only
  split
  · exact beginGrantedCommit_grantLaw s h ‹_›
  · exact beginBuildResolution_grantLaw s h ‹_›
  · exact beginGrantedCell_grantLaw s h ‹_›
  all_goals exact h

/-- A resolution in progress is that of the holder, COMMIT or BUILD (R99). -/
theorem Access.OwnLaw.resolver_holds {a : Access} (h : a.OwnLaw) (resolving : a.resolving = true) :
    a.arbiter.holder = some .commit ∧ a.begun .commit = true ∨
      a.arbiter.holder = some .build ∧ a.begun .build = true := by
  have resolution := h.resolver.resolution
  rw [resolving, eq_comm, Bool.or_eq_true] at resolution
  exact resolution.imp (fun e => ⟨(h.owns _).begun e, e⟩) (fun e => ⟨(h.owns _).begun e, e⟩)

theorem endResolution_access (r : Resolution) (s : State) : (endResolution r s).access = s.access.unresolved := rfl

/-- A commit's resolution ends, and the commit with it (R130 to R136). -/
theorem endCommitResolution_grantLaw (r : Resolution) (s : State) (h : s.GrantLaw)
    (held : s.arbiter.holder = some .commit) (begun : s.access.begun .commit = true) :
    (endCommitResolution r (endResolution r s)).GrantLaw := by
  have own := ((State.grantLaw_iff s).1 h).1
  have ends : ∀ c u, u.access = (endResolution r s).access → (endCommit c u).GrantLaw := fun c u same =>
    endCommit_grantLaw c s u own held same
  unfold endCommitResolution
  split
  · rename_i entry button queued commit
    have pressed := own.resolver.buttons _ commit rfl
    unfold finishCommit
    split
    · exact ends _ _ rfl
    · exact ends _ _ rfl
    · rename_i finish
      rcases pressed with e | e <;> cases e.symm.trans finish
    · rename_i cancel
      rcases pressed with e | e <;> cases e.symm.trans cancel
  · rename_i other
    have commit : (s.tool.commit.map CommitInHand.resolving).getD false = true := begun
    cases e : s.tool.commit with
    | none => simp [e] at commit
    | some c =>
      obtain ⟨entry, button, queued, resolving⟩ := c
      rw [e] at commit
      cases commit
      exact absurd e (other entry button queued)

/-- A build's resolution ends, and its grant with it (R152). -/
theorem endBuildResolution_grantLaw (r : Resolution) (s : State) (h : s.GrantLaw)
    (held : s.arbiter.holder = some .build) (begun : s.access.begun .build = true) :
    (endBuildResolution r (endResolution r s)).GrantLaw := by
  obtain ⟨own, drag, -⟩ := (State.grantLaw_iff s).1 h
  unfold endBuildResolution
  split
  · exact releaseGrant_grantLaw _ (own.build_ends held (some r) s.table.generation)
      (drag.of_other held (by simp) rfl)
  · rename_i other
    have phase : ((s.builder.build.map Build.phase).map BuildPhase.isResolving).getD false = true := begun
    cases e : s.builder.build with
    | none => simp [e] at phase
    | some b =>
      obtain ⟨bank, number, snap, sort, course⟩ := b
      cases course <;> simp [e, BuildPhase.isResolving] at phase
      exact absurd e (other bank number snap sort)

theorem resolutionEnds_grantLaw (s : State) (h : s.GrantLaw) : (resolutionEnds s).GrantLaw := by
  have own := ((State.grantLaw_iff s).1 h).1
  unfold resolutionEnds
  split
  · exact h
  · rename_i inputs resolution
    dsimp only [endResolution_arbiter]
    generalize resolve inputs s.table = r
    rcases own.resolver_holds (by simp [State.access, resolution]) with ⟨held, begun⟩ | ⟨held, begun⟩
    · rw [show s.arbiter.holder = some .commit from held]
      exact endCommitResolution_grantLaw r s h held begun
    · rw [show s.arbiter.holder = some .build from held]
      exact endBuildResolution_grantLaw r s h held begun

end Sys2Proof.Machine

/-! ## Lists and cells keep the arbiter's law (R81 to R94) -/

namespace Sys2Proof.Machine

/-- No list in flight, or a list whose cell neither waits nor is applied. -/
def Stage.resting : Option Stage → Bool
  | none => true
  | some .fetching => true
  | some (.writingBack _ _ _) => true
  | some .marking => true
  | some (.waiting _) => false
  | some (.granted _) => false
  | some (.applying _) => false

theorem Stage.aside_of_resting (st : Option Stage) (h : Stage.resting st = true) : Stage.aside st := by
  cases st with
  | none => rfl
  | some st => cases st <;> simp_all [Stage.resting, Stage.aside, Stage.needsTable]

theorem State.aside_of_inFlight {s : State} {f : InFlight} (inFlight : s.update.inFlight = some f)
    (rests : Stage.resting (some f.stage) = true) : Stage.aside s.stage := by
  rw [State.stage, inFlight]
  exact Stage.aside_of_resting _ rests

theorem showWrites_access (l : List (Word × Word)) (s : State) : (showWrites l s).access = s.access := rfl

/-- A list that keeps aside of the table and comes to rest keeps the law (R83 to R90). -/
theorem State.GrantLaw.list_rests {s t : State} (h : s.GrantLaw) (before : Stage.aside s.stage) (st : Option Stage)
    (access : t.access = { s.access with stage := st }) (rests : Stage.resting st = true) : t.GrantLaw := by
  obtain ⟨own, -, free⟩ := (State.grantLaw_iff s).1 h
  rw [State.grantLaw_iff, show t.arbiter = s.arbiter from congrArg Access.arbiter access, access]
  refine ⟨own.list_aside before (Stage.aside_of_resting st rests), fun c e => ?_, free⟩
  rw [show st = some (.waiting c) from e] at rests
  cases rests

theorem ListFrame.access {s t : State} (h : ListFrame s t) : t.access = { s.access with stage := t.stage } := by
  obtain ⟨u, n, rfl⟩ := h
  rfl

theorem recordEnding_stage (r : LastList) (s : State) : (recordEnding r s).stage = s.stage := by
  unfold recordEnding
  dsimp only
  split <;> rfl

/-- A list begins with the fetch of its head, or ends at once (R83). -/
theorem beginList_rests (l : Submitted) (s : State) : Stage.resting (beginList l s).stage = true := by
  unfold beginList
  split_ifs <;> rfl

/-- The ending of a list leaves none in flight, or the next one with the fetch of its head (R90). -/
theorem endList_rests (f : InFlight) (status : ListStatus) (s : State) :
    Stage.resting (endList f status s).stage = true := by
  unfold endList afterEnding
  dsimp only
  split
  · rfl
  · split
    · rw [recordEnding_stage]
      rfl
    · exact beginList_rests _ _

theorem endList_grantLaw (f : InFlight) (status : ListStatus) (s : State) (h : s.GrantLaw)
    (before : Stage.aside s.stage) : (endList f status s).GrantLaw :=
  h.list_rests before _ (endList_frame f status s).access (endList_rests f status s)

theorem beginList_grantLaw (l : Submitted) (s : State) (h : s.GrantLaw) (before : Stage.aside s.stage) :
    (beginList l s).GrantLaw :=
  h.list_rests before _ (beginList_frame l s).access (beginList_rests l s)

theorem submit_grantLaw (high : Half) (s : State) (h : s.GrantLaw) : (submit high s).GrantLaw := by
  unfold submit
  split
  · exact h.of_access rfl
  · dsimp only
    split
    · exact h.of_access rfl
    · rename_i idle
      have before : s.stage = none := by
        rw [State.stage, Option.map_eq_none_iff, ← Option.not_isSome_iff_eq_none]
        exact idle
      refine beginList_grantLaw _ _ (h.of_access rfl) ?_
      show Stage.aside s.stage
      rw [before]
      rfl

theorem updateTeardown_grantLaw (s : State) (h : s.GrantLaw) : (updateTeardown s).GrantLaw := by
  unfold updateTeardown
  split
  · exact h.of_access rfl
  · exact h

theorem cellBoundary_grantLaw (s : State) (h : s.GrantLaw) (before : Stage.aside s.stage) :
    (cellBoundary s).GrantLaw :=
  h.list_rests before none (settleReset_access _) rfl

/-- A fetched cell asks for the table, waits for the commit in progress, or is done with at once (R85, R87). -/
theorem dispatch_grantLaw (f : InFlight) (c : Cell) (s : State) (h : s.GrantLaw) (before : Stage.aside s.stage) :
    (dispatch f c s).GrantLaw := by
  obtain ⟨own, drag, free⟩ := (State.grantLaw_iff s).1 h
  unfold dispatch
  split_ifs with tableOp nop bad inProgress
  · refine request_grantLaw .update _ (own.request .update (Access.apart_update rfl rfl rfl rfl) rfl before tableOp rfl
      (own.resolver.congr rfl rfl rfl rfl)) fun c' waits notTableOp => ?_
    cases waits
    exact absurd tableOp (by simp [notTableOp])
  · exact h.list_rests before (some (.writingBack c none (writeBackControl c .ok))) rfl rfl
  · exact h.list_rests before (some (.writingBack c none (writeBackControl c .badOp))) rfl rfl
  · refine (State.grantLaw_iff _).2 ⟨own.list_aside before (Bool.eq_false_iff.2 tableOp), fun _ _ _ => ?_, free⟩
    exact eq_of_beq inProgress
  · refine h.list_rests before (some (.writingBack c none (writeBackControl c (dragOutcome s.tool.drag c).2))) ?_ rfl
    rw [applyDrag_eq]
    rfl

theorem fetchDone_grantLaw (f : InFlight) (reply : FetchReply) (s : State) (h : s.GrantLaw)
    (before : Stage.aside s.stage) : (fetchDone f reply s).GrantLaw := by
  unfold fetchDone
  split
  · exact cellBoundary_grantLaw s h before
  · split
    · exact endList_grantLaw f _ s h before
    · split
      · exact dispatch_grantLaw _ _ s h before
      · exact endList_grantLaw f _ s h before

theorem fetchCompletes_grantLaw (reply : FetchReply) (s : State) (h : s.GrantLaw) :
    (fetchCompletes reply s).GrantLaw := by
  unfold fetchCompletes
  split
  · exact fetchDone_grantLaw _ reply s h (State.aside_of_inFlight ‹_› rfl)
  · exact h

/-- A table op ends and its grant is released (R85). -/
theorem cellApplies_grantLaw (s : State) (h : s.GrantLaw) : (cellApplies s).GrantLaw := by
  obtain ⟨own, -, -⟩ := (State.grantLaw_iff s).1 h
  unfold cellApplies
  split
  · rename_i list applied cell c inFlight held
    refine releaseGrant_grantLaw _ ?_ fun c' e => (nomatch e)
    exact own.leave .update (Access.apart_update rfl rfl rfl rfl) (own.without_holder held).symm rfl
      (own.resolver.congr rfl rfl rfl rfl)
  · exact h

theorem boundaryAfterWrite_grantLaw (busError : Bool) (s : State) (h : s.GrantLaw) (before : Stage.aside s.stage) :
    (boundaryAfterWrite busError s).GrantLaw := by
  unfold boundaryAfterWrite
  split
  · exact cellBoundary_grantLaw _ (h.of_access rfl) before
  · exact cellBoundary_grantLaw s h before

theorem followLink_grantLaw (f : InFlight) (c : Cell) (s : State) (h : s.GrantLaw) (before : Stage.aside s.stage) :
    (followLink f c s).GrantLaw := by
  unfold followLink
  split_ifs
  · exact endList_grantLaw f _ s h before
  · exact endList_grantLaw f _ s h before
  · exact h.list_rests before (some .fetching) rfl rfl

theorem tearDown_grantLaw (f : InFlight) (c : Cell) (s : State) (h : s.GrantLaw) (before : Stage.aside s.stage) :
    (tearDown f c s).GrantLaw := by
  unfold tearDown
  split_ifs
  · exact endList_grantLaw f _ s h before
  · exact endList_grantLaw f _ s h before
  · exact h.list_rests before (some .marking) rfl rfl

theorem writeBackDone_grantLaw (f : InFlight) (c : Cell) (failed : Bool) (s : State) (h : s.GrantLaw)
    (before : Stage.aside s.stage) : (writeBackDone f c failed s).GrantLaw := by
  unfold writeBackDone
  split_ifs
  · exact boundaryAfterWrite_grantLaw _ s h before
  · exact endList_grantLaw f _ s h before
  · exact tearDown_grantLaw f c s h before
  · exact followLink_grantLaw f c s h before

theorem writeBackCompletes_grantLaw (handleError controlError : Bool) (s : State) (h : s.GrantLaw) :
    (writeBackCompletes handleError controlError s).GrantLaw := by
  unfold writeBackCompletes
  split
  · rename_i list applied cell c handle control inFlight
    exact writeBackDone_grantLaw _ c _ _ (h.of_access (showWrites_access _ s)) (State.aside_of_inFlight inFlight rfl)
  · exact h

theorem markingDone_grantLaw (f : InFlight) (busError : Bool) (s : State) (h : s.GrantLaw)
    (before : Stage.aside s.stage) : (markingDone f busError s).GrantLaw := by
  unfold markingDone
  split
  · exact boundaryAfterWrite_grantLaw _ s h before
  · exact endList_grantLaw f _ s h before

theorem markingCompletes_grantLaw (busError : Bool) (s : State) (h : s.GrantLaw) :
    (markingCompletes busError s).GrantLaw := by
  unfold markingCompletes
  split
  · rename_i list applied cell inFlight
    exact markingDone_grantLaw _ busError _ (h.of_access (showWrites_access _ s)) (State.aside_of_inFlight inFlight rfl)
  · exact h

end Sys2Proof.Machine

/-! ## Picks, the reset and every step keep the arbiter's law (R145, R169, R171 to R183) -/

namespace Sys2Proof.Machine

/-! ### Picks (R171 to R177) -/

theorem withPick_apart (i : PickId) (p : PickSlot) (s : State) :
    Access.Apart (pickRequester i) s.access (s.withPick i p).access := by
  cases i
  · exact Access.apart_pick0 rfl rfl rfl rfl
  · exact Access.apart_pick1 rfl rfl rfl rfl

theorem withPick_arbiter (i : PickId) (p : PickSlot) (s : State) : (s.withPick i p).access.arbiter = s.arbiter := by
  cases i <;> rfl

theorem withPick_outstanding (i : PickId) (p : PickSlot) (s : State) :
    (s.withPick i p).access.outstanding (pickRequester i) = (p.control != .idle) := by
  cases i <;> rfl

theorem withPick_begun (i : PickId) (p : PickSlot) (s : State) :
    (s.withPick i p).access.begun (pickRequester i) = (p.control == .searching) := by
  cases i <;> rfl

theorem withPick_resolverLaw (i : PickId) (p : PickSlot) (s : State) (h : s.access.ResolverLaw) :
    (s.withPick i p).access.ResolverLaw := by
  cases i <;> exact h.congr rfl rfl rfl rfl

theorem withPick_dragLaw (i : PickId) (p : PickSlot) (s : State) (h : s.access.DragLaw) :
    (s.withPick i p).access.DragLaw := by
  cases i <;> exact h

theorem pick_outstanding (i : PickId) (s : State) :
    s.access.outstanding (pickRequester i) = ((s.pick i).control != .idle) := by
  cases i <;> rfl

/-- A slot whose control state stays is to the arbiter what it was (R171, R174). -/
theorem withPick_access (i : PickId) (p : PickSlot) (s : State) (same : p.control = (s.pick i).control) :
    (s.withPick i p).access = s.access := by
  cases i
  · exact congrArg (fun c => { s.access with pick0 := c }) same
  · exact congrArg (fun c => { s.access with pick1 := c }) same

theorem PickSlot.store_control (p : PickSlot) (input : PickInput) (v : Word) :
    (p.store input v).control = p.control := by
  cases input <;> rfl

/-- A pick comes up with its request (R173). -/
theorem startPick_grantLaw (i : PickId) (s : State) (h : s.GrantLaw) (idle : (s.pick i).control = .idle) :
    (startPick i s).GrantLaw := by
  obtain ⟨own, drag, -⟩ := (State.grantLaw_iff s).1 h
  unfold startPick
  generalize waiting : ({ (s.pick i).cleared with aborted := false, blocked := false, control := .waiting } : PickSlot) = p
  have control : p.control = .waiting := by rw [← waiting]
  refine request_grantLaw (pickRequester i) (s.withPick i p)
    (own.request (pickRequester i) (withPick_apart i p s) ?_ ?_ ?_ ?_
      ((withPick_resolverLaw i p s own.resolver).congr rfl rfl rfl rfl))
    (withPick_dragLaw i p s drag)
  · show ({ (s.withPick i p).access.arbiter with
      waiting := (s.withPick i p).access.arbiter.waiting.set (pickRequester i) true } : Arbiter) = _
    rw [withPick_arbiter]
    rfl
  · simp [pick_outstanding, idle]
  · exact (withPick_outstanding i p s).trans (by simp [control])
  · exact (withPick_begun i p s).trans (by simp [control])

theorem writePick_grantLaw (i : PickId) (input : PickInput) (v : Word) (s : State) (h : s.GrantLaw) :
    (writePick i input v s).GrantLaw := by
  unfold writePick
  dsimp only
  split_ifs with busy go
  · exact h.of_access (withPick_access i _ s rfl)
  · exact startPick_grantLaw i s h (not_not.1 busy)
  · exact h
  · exact h.of_access (withPick_access i _ s (PickSlot.store_control _ _ _))

/-- A search ends and its grant is released (R176). -/
theorem completePick_grantLaw (i : PickId) (s : State) (h : s.GrantLaw)
    (held : s.arbiter.holder = some (pickRequester i)) : (completePick i s).GrantLaw := by
  obtain ⟨own, drag, -⟩ := (State.grantLaw_iff s).1 h
  unfold completePick
  dsimp only
  generalize ended : ({ (s.pick i).withResult (pickSearch (s.pick i) s.active.filters s.table) with
    aborted := false, control := .idle } : PickSlot) = p
  have control : p.control = .idle := by rw [← ended]
  have raised : (raisePickDone i (s.withPick i p)).access = (s.withPick i p).access := by cases i <;> rfl
  have arbiter : (raisePickDone i (s.withPick i p)).arbiter = s.arbiter :=
    (congrArg Access.arbiter raised).trans (withPick_arbiter i p s)
  refine releaseGrant_grantLaw _ ?_ ?_
  · rw [raised, arbiter]
    exact own.leave (pickRequester i) (withPick_apart i p s) (own.without_holder held).symm
      ((withPick_outstanding i p s).trans (by simp [control]))
      ((withPick_resolverLaw i p s own.resolver).congr rfl rfl rfl rfl)
  · rw [raised]
    exact drag.of_other held (by cases i <;> simp [pickRequester]) (by cases i <;> rfl)

theorem pickCompletes_grantLaw (s : State) (h : s.GrantLaw) : (pickCompletes s).GrantLaw := by
  unfold pickCompletes
  split
  · split
    · exact completePick_grantLaw .pick0 s h ‹_›
    · exact h
  · split
    · exact completePick_grantLaw .pick1 s h ‹_›
    · exact h
  all_goals exact h

theorem abortPick_ownLaw (i : PickId) (s : State) (h : s.access.OwnLaw) : (abortPick i s).access.OwnLaw := by
  unfold abortPick
  dsimp only
  split
  · exact h
  · generalize aborted : ({ (s.pick i).cleared with aborted := true, control := .idle } : PickSlot) = p
    have control : p.control = .idle := by rw [← aborted]
    generalize withdrawn : withdraw (pickRequester i) s = u
    have arbiter : u.arbiter = s.arbiter.without (pickRequester i) := by rw [← withdrawn]; rfl
    have same : u.access = { s.access with arbiter := u.arbiter } := by rw [← withdrawn]; rfl
    have raised : (raisePickDone i (u.withPick i p)).access = (u.withPick i p).access := by cases i <;> rfl
    have apart : Access.Apart (pickRequester i) s.access (u.withPick i p).access := by
      have := withPick_apart i p u
      rw [same] at this
      exact this
    rw [raised]
    refine h.leave (pickRequester i) apart ((withPick_arbiter i p u).trans arbiter)
      ((withPick_outstanding i p u).trans (by simp [control])) (withPick_resolverLaw i p u ?_)
    rw [same]
    exact h.resolver.congr rfl rfl rfl rfl

/-! ### ENGINE_RESET (R77, R96, R145, R169, R177, R183) -/

theorem resetTool_ownLaw (s : State) (h : s.access.OwnLaw) : (resetTool s).access.OwnLaw := by
  unfold resetTool
  split
  · rename_i entry button queued commit
    refine h.congr (b := { s.access with commit := some ⟨entry, button, false, true⟩ }) ?_ ?_ rfl
      ⟨?_, h.resolver.emptying, fun c e _ => ?_⟩
    · funext r
      cases r <;> simp [Access.outstanding, State.access, commit]
    · funext r
      cases r <;> simp [Access.begun, State.access, commit]
    · rw [show s.access.resolving = _ from h.resolver.resolution]
      simp [Access.begun, State.access, commit]
    · cases e
      exact h.resolver.buttons ⟨entry, button, queued, true⟩ commit rfl
  · rename_i entry button queued commit
    have still : s.access.begun .commit = false := by simp [Access.begun, State.access, commit]
    refine h.leave (b := { s.access with arbiter := s.arbiter.without .commit, commit := none }) .commit
      (Access.apart_commit rfl rfl rfl rfl) rfl rfl ⟨?_, h.resolver.emptying, fun c e => (nomatch e)⟩
    have resolution := h.resolver.resolution
    rw [still] at resolution
    exact resolution
  · exact h

/-- ENGINE_RESET leaves no build in flight, and the grant and the resolution of one with it (R77, R169). -/
theorem resetBuilder_ownLaw (s : State) (h : s.access.OwnLaw) : (resetBuilder s).access.OwnLaw := by
  unfold resetBuilder
  dsimp only
  split
  · rename_i build
    have still : s.access.begun .build = false := by simp [Access.begun, State.access, build, BuildPhase.isResolving]
    refine h.leave (b := { s.access with arbiter := s.arbiter.without .build, phase := none }) .build
      (Access.apart_build rfl rfl rfl rfl) rfl rfl ⟨?_, h.resolver.emptying, h.resolver.buttons⟩
    have resolution := h.resolver.resolution
    rw [still] at resolution
    exact resolution
  · rename_i build
    have begun : s.access.begun .build = true := by simp [Access.begun, State.access, build, BuildPhase.isResolving]
    refine h.leave (b := { s.access.unresolved with arbiter := s.arbiter.without .build, phase := none }) .build
      (Access.apart_build rfl rfl rfl rfl) rfl rfl ⟨?_, fun e => (nomatch e), h.resolver.buttons⟩
    have other : s.access.begun .commit = false := h.begun_of_other ((h.owns .build).begun begun) (by simp)
    show false = (s.access.begun .commit || false)
    rw [other]
    rfl
  · rename_i notWaiting notResolving
    have idle : s.access.outstanding .build = false := by
      cases e : s.builder.build with
      | none => simp [Access.outstanding, State.access, e]
      | some b =>
        obtain ⟨bank, number, snap, sort, course⟩ := b
        cases course with
        | waiting => exact absurd e (notWaiting bank number snap sort)
        | resolving => exact absurd e (notResolving bank number snap sort)
        | composing result gen => simp [Access.outstanding, State.access, e, BuildPhase.needsTable]
    refine h.aside (b := { s.access with phase := none }) .build (Access.apart_build rfl rfl rfl rfl) rfl idle rfl
      ⟨?_, h.resolver.emptying, h.resolver.buttons⟩
    have resolution := h.resolver.resolution
    rw [s.access.begun_le .build idle] at resolution
    exact resolution

/-- At a boundary reached at once UPDATE is withdrawn; otherwise no cell waits (R77, R96). -/
theorem resetUpdate_ownLaw (s : State) (h : s.access.OwnLaw) :
    (resetUpdate s).access.OwnLaw ∧ (resetUpdate s).access.DragLaw := by
  rcases resetUpdate_cases s with ⟨-, e⟩ | ⟨later, e⟩
  · rw [e]
    refine ⟨?_, fun c e => (nomatch e)⟩
    exact h.leave (b := { s.access with arbiter := s.arbiter.without .update, stage := none }) .update
      (Access.apart_update rfl rfl rfl rfl) rfl rfl (h.resolver.congr rfl rfl rfl rfl)
  · rw [e]
    refine ⟨h, fun c stage => ?_⟩
    obtain ⟨⟨list, applied, cell, st⟩, inFlight, waiting⟩ := Option.map_eq_some_iff.1 stage
    cases waiting
    rw [inFlight] at later
    cases later

theorem resetEngine_grantLaw (s : State) (h : s.GrantLaw) : (resetEngine s).GrantLaw := by
  obtain ⟨own, -, -⟩ := (State.grantLaw_iff s).1 h
  unfold resetEngine
  dsimp only
  generalize cleared : ({ s with
    appNotices := s.appNotices.clear (BitVec.allOnes 14), engine := .resetting } : State) = u
  have same : (resetLink u).access = s.access := by
    rw [(resetLink_frame u).access, ← cleared]
    rfl
  rw [← same] at own
  have picks := abortPick_ownLaw .pick1 _
    (abortPick_ownLaw .pick0 _ (emptyCapture_ownLaw _ (resetBuilder_ownLaw _ (resetTool_ownLaw _ own))))
  obtain ⟨own, drag⟩ := resetUpdate_ownLaw _ picks
  rw [← settleReset_access] at own drag
  exact arbitrate_grantLaw _ own drag

/-! ### Ports, commands and the step (R179 to R183, R190) -/

theorem accessed_access (port : PortId) (loc : Nat) (s : State) : (accessed port loc s).access = s.access := by
  obtain ⟨p, h⟩ := accessed_frame port loc s
  rw [h]
  rfl

theorem engineReset_grantLaw (s : State) (h : s.GrantLaw) : (engineReset s).GrantLaw := by
  unfold engineReset
  split
  · exact resetEngine_grantLaw s h
  · exact h

theorem command_grantLaw (code : Half) (s : State) (h : s.GrantLaw) : (command code s).GrantLaw := by
  unfold command
  split
  · exact engineReset_grantLaw s h
  · exact h.of_access (linkRestart_frame s).access
  · exact h.of_access rfl
  · exact updateTeardown_grantLaw s h
  · exact h.of_access rfl
  · exact h.of_access rfl
  · exact h

theorem frameStart_access (s : State) : (frameStart s).access = s.access := by
  have committed : (commitView s).access = s.access := by
    unfold commitView
    dsimp only
    split
    · rfl
    · split <;> rfl
  exact committed

theorem readStream_access (s : State) : (readStream s).access = s.access := by
  unfold readStream
  dsimp only
  rw [advanceStream_eq]
  rfl

theorem clearNotices_access (port : PortId) (v : Word) (s : State) : (clearNotices port v s).access = s.access := by
  cases port <;> rfl

theorem enableNotices_access (port : PortId) (v : Word) (s : State) : (enableNotices port v s).access = s.access := by
  cases port <;> rfl

theorem disableNotices_access (port : PortId) (v : Word) (s : State) :
    (disableNotices port v s).access = s.access := by
  cases port <;> rfl

theorem staged_access (st : Settings) (s : State) : State.access { s with staged := st } = s.access := rfl

/-- A DATA write of the application window keeps the arbiter's law at every location (R181, R195). -/
theorem writeApp_grantLaw (loc : Nat) (v : Word) (s : State) (h : s.GrantLaw) : (writeApp loc v s).GrantLaw := by
  unfold writeApp
  split_ifs
  · exact command_grantLaw _ s h
  · exact h.of_access (clearNotices_access _ _ s)
  · exact h.of_access (enableNotices_access _ _ s)
  · exact h.of_access (disableNotices_access _ _ s)
  · exact h.of_access rfl
  · exact submit_grantLaw _ s h
  · exact h.of_access rfl
  · split
    · exact writePick_grantLaw _ _ _ s h
    · exact h
  · exact h.of_access (staged_access _ s)
  · exact h

/-- A DATA write of the display window keeps the arbiter's law at every location (R181, R196). -/
theorem writeDisp_grantLaw (loc : Nat) (v : Word) (s : State) (h : s.GrantLaw) : (writeDisp loc v s).GrantLaw := by
  unfold writeDisp
  split_ifs
  · exact h.of_access (clearNotices_access _ _ s)
  · exact h.of_access (enableNotices_access _ _ s)
  · exact h.of_access (disableNotices_access _ _ s)
  · exact h.of_access (frameStart_access s)
  · exact h.of_access rfl
  · split
    · exact h.of_access rfl
    · exact h
  · split
    · exact writePick_grantLaw _ _ _ s h
    · exact h
  · exact h

theorem State.GrantLaw.accessed {s : State} (h : s.GrantLaw) (port : PortId) (loc : Nat) :
    (accessed port loc s).GrantLaw :=
  h.of_access (accessed_access port loc s)

/-- A row of a location whose effect leaves the access to the table (log 5). -/
theorem State.GrantLaw.accessed_of {s t : State} (h : s.GrantLaw) (port : PortId) (loc : Nat)
    (same : t.access = s.access) : (Machine.accessed port loc t).GrantLaw :=
  (h.of_access same).accessed port loc

theorem portWrite_grantLaw (port : PortId) (address : PortAddr) (v : Word) (s : State) (h : s.GrantLaw) :
    (portWrite port address v s).GrantLaw := by
  cases port <;> cases address
  case app.index => exact h.of_access rfl
  case disp.index => exact h.of_access rfl
  case app.data => exact (writeApp_grantLaw _ v s h).accessed _ _
  case disp.data => exact (writeDisp_grantLaw _ v s h).accessed _ _

theorem portRead_access (port : PortId) (address : PortAddr) (s : State) :
    (portRead port address s).access = s.access := by
  cases port <;> cases address
  case app.index => rfl
  case disp.index => rfl
  case app.data => exact accessed_access _ _ _
  case disp.data =>
    refine (accessed_access _ _ _).trans ?_
    split
    · exact readStream_access s
    · rfl

theorem writePickAt_grantLaw (i : PickId) (input : PickInput) (v : Word) (s : State) (h : s.GrantLaw) :
    (writePickAt i input v s).GrantLaw := by
  unfold writePickAt
  split
  · exact h
  · cases i
    case pick0 => exact (writePick_grantLaw _ _ _ s h).accessed _ _
    case pick1 => exact (writePick_grantLaw _ _ _ s h).accessed _ _

/-- After power-on nothing is outstanding and the table is free (R75, R190). -/
theorem powerOn_grantLaw (s : State) : State.GrantLaw { State.reset with pending := s.pending } := by
  have idle : ∀ r, State.reset.access.outstanding r = false := fun r => by cases r <;> rfl
  have nobody : ∀ r, State.reset.arbiter.waiting.get r = false := fun r => by cases r <;> rfl
  refine (State.grantLaw_iff _).2 ⟨⟨fun r => .of_idle ?_ (nobody r) (fun e => (nomatch e)),
    rfl, fun e => (nomatch e), fun c e => (nomatch e)⟩, fun c e => (nomatch e), fun _ => nobody⟩
  exact idle r

/-- Every command keeps the arbiter's law. -/
theorem exec_grantLaw (c : Instr) (s t : State) (h : s.GrantLaw) (run : exec c s = .next t) : t.GrantLaw := by
  cases c <;> cases run
  case powerOn => exact powerOn_grantLaw s
  case byteArrival time sound byte => exact h.of_access (takeByte_frame time sound byte s).access
  case gapExpiry time => exact h.of_access (gapExpires_frame time s).access
  case presenceExpiry time device => exact h.of_access (presenceExpires_frame time device s).access
  case engineReset => exact (engineReset_grantLaw s h).accessed _ _
  case linkRestart => exact h.accessed_of _ _ (linkRestart_frame s).access
  case apply => exact h.accessed_of _ _ rfl
  case updateTeardown => exact (updateTeardown_grantLaw s h).accessed _ _
  case updateAck => exact h.accessed_of _ _ rfl
  case commitPop => exact h.accessed_of _ _ rfl
  case submitHi value => exact (submit_grantLaw value s h).accessed _ _
  case fetchCompletion reply => exact fetchCompletes_grantLaw reply s h
  case tableGrant => exact tableGrant_grantLaw s h
  case cellApplication => exact cellApplies_grantLaw s h
  case writeBackCompletion handleError controlError => exact writeBackCompletes_grantLaw handleError controlError s h
  case markingCompletion busError => exact markingCompletes_grantLaw busError s h
  case commitStart => exact tryCommitStart_grantLaw s h
  case resolutionEnd => exact resolutionEnds_grantLaw s h
  case buildStart => exact tryBuildStart_grantLaw s h
  case buildCompletion => exact completeBuild_grantLaw s h
  case frameStart => exact h.accessed_of _ _ (frameStart_access s)
  case stream => exact h.accessed_of _ _ (readStream_access s)
  case streamRewind => exact h.accessed_of _ _ rfl
  case stagedViewWrite field value => exact h.accessed_of _ _ rfl
  case pickGo slot => exact writePickAt_grantLaw slot .go 1 s h
  case pickBlockedWrite slot input value => exact writePickAt_grantLaw slot input value s h
  case pickCompletion => exact pickCompletes_grantLaw s h
  case noticeRaw port value => exact h.accessed_of _ _ (clearNotices_access port value s)
  case enableSet port value => exact h.accessed_of _ _ (enableNotices_access port value s)
  case enableClear port value => exact h.accessed_of _ _ (disableNotices_access port value s)
  case dataRead port address => exact h.of_access (portRead_access port address s)
  case registerWrite port address value => exact portWrite_grantLaw port address value s h

end Sys2Proof.Machine

namespace Sys2Proof.Claims

open Sys2Proof.Machine

/-- Settles O5: the law holds requester by requester, so an operation keeps it where it leaves the access of the other
requesters as it is; the next grant restores that a free table has nobody waiting. -/
theorem everyStepKeepsTheGrantLaw : Obligations.EveryStepKeepsTheGrantLaw := by
  intro s t h run
  unfold step at run
  split at run
  · cases run
    exact h
  · rename_i c rest _
    exact exec_grantLaw c { s with pending := rest } t (h.of_access rfl) run

end Sys2Proof.Claims

/-! ## The choice of the next grant (R76, R85, R173) -/

namespace Sys2Proof.Machine

open Sys2Proof.Claims

/-- In an ascending list the search finds the least element that passes. -/
theorem find?_eq_some_of_least {α : Type} {f : α → Nat} {p : α → Bool} {l : List α} {x : α}
    (ascending : l.Pairwise (f · < f ·)) (mem : x ∈ l) (passes : p x = true)
    (least : ∀ y ∈ l, p y = true → f x ≤ f y) : l.find? p = some x := by
  induction l with
  | nil => cases mem
  | cons a rest ih =>
    obtain ⟨first, ascending⟩ := List.pairwise_cons.1 ascending
    by_cases e : x = a
    · rw [← e, List.find?_cons_of_pos passes]
    · have mem := (List.mem_cons.1 mem).resolve_left e
      have fails : ¬ p a = true := fun pa => absurd (least a List.mem_cons_self pa) (not_le.2 (first x mem))
      rw [List.find?_cons_of_neg fails]
      exact ih ascending mem fun y hy => least y (List.mem_cons_of_mem _ hy)

/-- The cyclic order is that of the places from the position on (R76). -/
theorem Turn.order_ascending (turn : Turn) : turn.order.Pairwise (distance turn · < distance turn ·) := by
  cases turn <;> decide

/-- From a requester granted earlier in the order, one later in it is fewer places away than before (R76). -/
theorem distance_lt (turn x y : Turn) (other : y ≠ x) (earlier : distance turn x ≤ distance turn y) :
    distance x y < distance turn y := by
  revert other earlier
  cases turn <;> cases x <;> cases y <;> decide

theorem Arbiter.next_commit (a : Arbiter) (h : a.waiting.commit = true) : a.next = some .commit := if_pos h

/-- Without COMMIT the next grant goes to the waiting requester that comes first from the position on (R76). -/
theorem Arbiter.next_turn (a : Arbiter) (x : Turn) (noCommit : a.waiting.commit = false)
    (waits : a.waiting.get x.requester = true)
    (first : ∀ y : Turn, a.waiting.get y.requester = true → distance a.turn x ≤ distance a.turn y) :
    a.next = some x.requester := by
  unfold Arbiter.next
  have found : a.turn.order.find? (a.waiting.get ∘ Turn.requester) = some x :=
    find?_eq_some_of_least a.turn.order_ascending (a.turn.mem_order x) waits fun y _ => first y
  rw [if_neg (by simp [noCommit]), List.find?_map, found]
  rfl

theorem arbitrate_of_next (s : State) (r : Requester) (free : s.arbiter.holder = none) (next : s.arbiter.next = some r) :
    arbitrate s = grantTo r s := by
  unfold arbitrate
  rw [free, next]

theorem arbitrate_of_nobody (s : State) (nobody : ∀ r, s.arbiter.waiting.get r = false) : arbitrate s = s := by
  rcases arbitrate_cases s with ⟨h, -⟩ | ⟨r, -, next, -⟩
  · exact h
  · exact absurd (s.arbiter.next_waits r next) (by simp [nobody])

theorem grantTo_turn_arbiter (x : Turn) (s : State) :
    (grantTo x.requester s).arbiter = ⟨some x.requester, s.arbiter.waiting.set x.requester false, x⟩ := by
  obtain ⟨f, p, q, h⟩ := grantTo_frame x.requester s
  rw [h]
  cases x <;> rfl

end Sys2Proof.Machine

/-! ## A release with requests waiting ends its operation as one with none (R76) -/

namespace Sys2Proof.Machine

/-- Nobody's request waits. -/
def nobody : Requests := ⟨false, false, false, false, false⟩

def State.withWaiting (s : State) (w : Requests) : State := s.withArbiter { s.arbiter with waiting := w }

/-- The outcomes of a command with requests waiting, and with none: a release with none leaves the table free, and the
same release with some makes the next grant after it. -/
def Alike (w : Requests) (some none : State) : Prop :=
  none.arbiter.holder = Option.none → some = arbitrate (none.withWaiting w)

/-- A command that leaves the grant where it is releases nothing. -/
theorem Alike.of_held {w : Requests} {u v : State} {r : Requester} (held : v.arbiter.holder = some r) : Alike w u v :=
  fun free => absurd (held.symm.trans free) (by simp)

/-- A release without an apply pending is followed by the next grant alone (R76, R149). -/
theorem releaseGrant_alike (s : State) (apply : s.applyPending = false) :
    Alike s.arbiter.waiting (releaseGrant s) (releaseGrant (s.withWaiting nobody)) := by
  intro _
  have released : releaseGrant s = arbitrate (freeHolder s) := by
    unfold releaseGrant
    dsimp only
    rw [show (freeHolder s).applyPending = false from apply, Bool.and_false]
    rfl
  rw [releaseGrant_quiet (s.withWaiting nobody) apply (fun r => by cases r <;> rfl), released]
  rfl

/-! ### What an operation does before its release has nothing to do with the requests that wait -/

theorem applyWaitingDrag_withWaiting (s : State) (w : Requests) :
    applyWaitingDrag (s.withWaiting w) = (applyWaitingDrag s).withWaiting w := by
  unfold applyWaitingDrag
  rw [show (s.withWaiting w).update = s.update from rfl]
  split
  · split <;> rfl
  · rfl

theorem settleReset_withWaiting (s : State) (w : Requests) :
    settleReset (s.withWaiting w) = (settleReset s).withWaiting w := by
  unfold settleReset
  rw [show (s.withWaiting w).update = s.update from rfl, show (s.withWaiting w).engine = s.engine from rfl,
    show (s.withWaiting w).tool = s.tool from rfl]
  split <;> rfl

theorem handlePress_withWaiting (c : CommitInHand) (s : State) (w : Requests) :
    handlePress c (s.withWaiting w) = (handlePress c s).withWaiting w := by
  rw [handlePress_eq, handlePress_eq]
  rfl

theorem emptyCapture_withWaiting (s : State) (w : Requests) :
    emptyCapture (s.withWaiting w) = (emptyCapture s).withWaiting w := by
  rw [emptyCapture_eq, emptyCapture_eq]
  rfl

theorem commitLeft_withWaiting (c : CommitInHand) (s : State) (w : Requests) :
    commitLeft c (s.withWaiting w) = (commitLeft c s).withWaiting w := by
  unfold commitLeft
  dsimp only
  rw [show (s.withWaiting w).withTool { (s.withWaiting w).tool with commit := none } =
    (s.withTool { s.tool with commit := none }).withWaiting w from rfl, handlePress_withWaiting,
    applyWaitingDrag_withWaiting]
  generalize applyWaitingDrag (handlePress c (s.withTool { s.tool with commit := none })) = u
  rw [← settleReset_withWaiting, show (u.withWaiting w).engine = u.engine from rfl]
  split <;> rfl

theorem applyWaitingDrag_applyPending (s : State) : (applyWaitingDrag s).applyPending = s.applyPending := by
  unfold applyWaitingDrag
  split
  · split <;> rfl
  · rfl

theorem settleReset_applyPending (s : State) : (settleReset s).applyPending = s.applyPending := by
  rcases settleReset_cases s with ⟨-, -, -, h⟩ | h
  · rw [h]
  · rw [h]

theorem commitLeft_applyPending (c : CommitInHand) (s : State) : (commitLeft c s).applyPending = s.applyPending := by
  unfold commitLeft
  dsimp only
  generalize left : applyWaitingDrag (handlePress c (s.withTool { s.tool with commit := none })) = u
  have pending : u.applyPending = s.applyPending := by
    rw [← left, applyWaitingDrag_applyPending, handlePress_eq]
    rfl
  rw [settleReset_applyPending]
  split
  · exact pending
  · exact pending

/-- The end of a commit is a release (R127). -/
theorem endCommit_alike (c : CommitInHand) {w : Requests} {u v : State} (apply : u.applyPending = false)
    (waiting : u.arbiter.waiting = w) (quiet : v = u.withWaiting nobody) : Alike w (endCommit c u) (endCommit c v) := by
  obtain ⟨st, access, -⟩ := commitLeft_access c u
  have arbiter : (commitLeft c u).arbiter = u.arbiter := congrArg Access.arbiter access
  have alike := releaseGrant_alike (commitLeft c u) ((commitLeft_applyPending c u).trans apply)
  rw [arbiter, waiting, ← commitLeft_withWaiting, ← quiet] at alike
  exact alike

theorem commitWithoutPoint_alike (c : CommitInHand) (kind : RecordKind) (e : PressEffect) (s : State)
    (apply : s.applyPending = false) :
    Alike s.arbiter.waiting (commitWithoutPoint c kind e s) (commitWithoutPoint c kind e (s.withWaiting nobody)) := by
  unfold commitWithoutPoint
  exact endCommit_alike c apply rfl rfl

theorem commitMenuPick_alike (c : CommitInHand) (window : MenuId) (cell : BitVec 8) (s : State)
    (apply : s.applyPending = false) :
    Alike s.arbiter.waiting (commitMenuPick c window cell s) (commitMenuPick c window cell (s.withWaiting nobody)) := by
  unfold commitMenuPick
  dsimp only
  rw [emptyCapture_withWaiting, emptyCapture_eq]
  exact endCommit_alike c apply rfl rfl

theorem commitPoint_alike (c : CommitInHand) (s : State) (apply : s.applyPending = false)
    (held : s.arbiter.holder = some .commit) :
    Alike s.arbiter.waiting (commitPoint c s) (commitPoint c (s.withWaiting nobody)) := by
  unfold commitPoint
  rw [show (s.withWaiting nobody).active = s.active from rfl]
  split
  · exact commitMenuPick_alike c _ _ s apply
  · exact .of_held (r := .commit) held

theorem commitAccepted_alike (c : CommitInHand) (s : State) (apply : s.applyPending = false)
    (held : s.arbiter.holder = some .commit) :
    Alike s.arbiter.waiting (commitAccepted c s) (commitAccepted c (s.withWaiting nobody)) := by
  unfold commitAccepted
  split
  · exact commitWithoutPoint_alike c _ _ s apply
  · exact commitWithoutPoint_alike c _ _ s apply
  · exact commitPoint_alike c s apply held
  · exact commitPoint_alike c s apply held

theorem beginCommit_alike (c : CommitInHand) (s : State) (apply : s.applyPending = false)
    (held : s.arbiter.holder = some .commit) :
    Alike s.arbiter.waiting (beginCommit c s) (beginCommit c (s.withWaiting nobody)) := by
  unfold beginCommit
  rw [show (s.withWaiting nobody).applyPending = s.applyPending from rfl, apply]
  dsimp only
  rw [if_neg Bool.false_ne_true, if_neg Bool.false_ne_true,
    show commitRefusal c.button (s.withWaiting nobody) = commitRefusal c.button s from rfl]
  split
  · exact endCommit_alike c apply rfl rfl
  · exact commitAccepted_alike c s apply held

theorem beginGrantedCommit_alike (s : State) (apply : s.applyPending = false)
    (held : s.arbiter.holder = some .commit) :
    Alike s.arbiter.waiting (beginGrantedCommit s) (beginGrantedCommit (s.withWaiting nobody)) := by
  unfold beginGrantedCommit
  rw [show (s.withWaiting nobody).tool = s.tool from rfl]
  split
  · exact beginCommit_alike _ s apply held
  · exact .of_held (r := .commit) held

/-- A build's resolution begins without a change of the grant (R152). -/
theorem beginBuildResolution_arbiter (s : State) : (beginBuildResolution s).arbiter = s.arbiter := by
  unfold beginBuildResolution
  split <;> rfl

theorem beginGrantedCell_arbiter (s : State) : (beginGrantedCell s).arbiter = s.arbiter := by
  rcases beginGrantedCell_cases s with ⟨list, applied, cell, c, -, h⟩ | h
  · rw [h]
  · rw [h]

theorem tableGrant_alike (s : State) (apply : s.applyPending = false) (r : Requester)
    (held : s.arbiter.holder = some r) :
    Alike s.arbiter.waiting (tableGrant s) (tableGrant (s.withWaiting nobody)) := by
  have held' : (s.withWaiting nobody).arbiter.holder = some r := held
  unfold tableGrant
  rw [arbitrate_held s r held, arbitrate_held _ r held']
  dsimp only
  rw [held, held']
  cases r with
  | commit => exact beginGrantedCommit_alike s apply held
  | build => exact .of_held ((congrArg Arbiter.holder (beginBuildResolution_arbiter _)).trans held')
  | update => exact .of_held ((congrArg Arbiter.holder (beginGrantedCell_arbiter _)).trans held')
  | pick0 => exact .of_held held'
  | pick1 => exact .of_held held'

theorem cellApplies_alike (s : State) (apply : s.applyPending = false) (r : Requester)
    (held : s.arbiter.holder = some r) :
    Alike s.arbiter.waiting (cellApplies s) (cellApplies (s.withWaiting nobody)) := by
  unfold cellApplies
  rw [show (s.withWaiting nobody).update = s.update from rfl,
    show (s.withWaiting nobody).arbiter.holder = s.arbiter.holder from rfl]
  split
  · exact releaseGrant_alike (startWriteBack _ _ _ _ (putTable _ s)) apply
  · exact .of_held (r := r) held

theorem completePick_alike (i : PickId) (s : State) (apply : s.applyPending = false) :
    Alike s.arbiter.waiting (completePick i s) (completePick i (s.withWaiting nobody)) := by
  unfold completePick
  rw [show (s.withWaiting nobody).pick i = s.pick i by cases i <;> rfl,
    show (s.withWaiting nobody).active = s.active from rfl, show (s.withWaiting nobody).table = s.table from rfl]
  dsimp only
  generalize ({ (s.pick i).withResult (pickSearch (s.pick i) s.active.filters s.table) with
    aborted := false, control := .idle } : PickSlot) = p
  cases i
  · exact releaseGrant_alike (raisePickDone .pick0 (s.withPick .pick0 p)) apply
  · exact releaseGrant_alike (raisePickDone .pick1 (s.withPick .pick1 p)) apply

theorem pickCompletes_alike (s : State) (apply : s.applyPending = false) (r : Requester)
    (held : s.arbiter.holder = some r) :
    Alike s.arbiter.waiting (pickCompletes s) (pickCompletes (s.withWaiting nobody)) := by
  have held' : (s.withWaiting nobody).arbiter.holder = some r := held
  unfold pickCompletes
  rw [held, held', show (s.withWaiting nobody).pick0 = s.pick0 from rfl,
    show (s.withWaiting nobody).pick1 = s.pick1 from rfl]
  cases r with
  | pick0 =>
    dsimp only
    split
    · exact completePick_alike .pick0 s apply
    · exact .of_held held'
  | pick1 =>
    dsimp only
    split
    · exact completePick_alike .pick1 s apply
    · exact .of_held held'
  | commit => exact .of_held held'
  | build => exact .of_held held'
  | update => exact .of_held held'

theorem finishPlace_alike (c : CommitInHand) (r : Resolution) (s : State) (apply : s.applyPending = false) :
    Alike s.arbiter.waiting (finishPlace c r s) (finishPlace c r (s.withWaiting nobody)) := by
  unfold finishPlace
  exact endCommit_alike c apply rfl rfl

theorem finishAux_alike (c : CommitInHand) (r : Resolution) (s : State) (apply : s.applyPending = false) :
    Alike s.arbiter.waiting (finishAux c r s) (finishAux c r (s.withWaiting nobody)) := by
  unfold finishAux
  exact endCommit_alike c apply rfl rfl

theorem endCommitResolution_alike (r : Resolution) (s : State) (apply : s.applyPending = false)
    (held : s.arbiter.holder = some .commit) :
    Alike s.arbiter.waiting (endCommitResolution r s) (endCommitResolution r (s.withWaiting nobody)) := by
  unfold endCommitResolution
  rw [show (s.withWaiting nobody).tool = s.tool from rfl]
  split
  · unfold finishCommit
    split
    · exact finishPlace_alike _ r s apply
    · exact finishAux_alike _ r s apply
    · exact .of_held (r := .commit) held
    · exact .of_held (r := .commit) held
  · exact .of_held (r := .commit) held

theorem endBuildResolution_alike (r : Resolution) (s : State) (apply : s.applyPending = false)
    (held : s.arbiter.holder = some .build) :
    Alike s.arbiter.waiting (endBuildResolution r s) (endBuildResolution r (s.withWaiting nobody)) := by
  unfold endBuildResolution
  rw [show (s.withWaiting nobody).builder = s.builder from rfl]
  split
  · exact releaseGrant_alike (s.withBuilder _) apply
  · exact .of_held (r := .build) held

theorem resolutionEnds_alike (s : State) (apply : s.applyPending = false) (r : Requester)
    (held : s.arbiter.holder = some r) :
    Alike s.arbiter.waiting (resolutionEnds s) (resolutionEnds (s.withWaiting nobody)) := by
  unfold resolutionEnds
  rw [show (s.withWaiting nobody).resolver = s.resolver from rfl]
  split
  · exact .of_held (r := r) held
  · rename_i inputs _
    dsimp only
    rw [show (s.withWaiting nobody).table = s.table from rfl]
    generalize resolve inputs s.table = result
    rw [show endResolution result (s.withWaiting nobody) = (endResolution result s).withWaiting nobody from rfl]
    generalize ended : endResolution result s = u
    have same : u.arbiter = s.arbiter := by rw [← ended]; rfl
    have applied : u.applyPending = false := by rw [← ended]; exact apply
    have heldU : u.arbiter.holder = some r := (congrArg Arbiter.holder same).trans held
    rw [show (u.withWaiting nobody).arbiter.holder = u.arbiter.holder from rfl, heldU, ← same]
    cases r with
    | build => exact endBuildResolution_alike result u applied heldU
    | commit => exact endCommitResolution_alike result u applied heldU
    | update => exact .of_held heldU
    | pick0 => exact .of_held heldU
    | pick1 => exact .of_held heldU

end Sys2Proof.Machine

namespace Sys2Proof.Claims

open Sys2Proof.Machine

/-- What a grant to one of the four that take turns changes besides the arbiter: a waiting cell enters APPLYING, a slot
SEARCHING (R85, R173). -/
theorem grantTo_turn_eq (x : Turn) (s : State) (enter : InFlight → InFlight)
    (granted : x = .update → ∀ f c, f.stage = .waiting c → enter f = { f with stage := .granted c })
    (kept : ∀ f, (x = .update → ∀ c, f.stage ≠ .waiting c) → enter f = f) :
    grantTo x.requester s =
      { s with
        arbiter := (grantTo x.requester s).arbiter
        update := { s.update with inFlight := s.update.inFlight.map enter }
        pick0 := if x = .pick0 then { s.pick0 with control := .searching } else s.pick0
        pick1 := if x = .pick1 then { s.pick1 with control := .searching } else s.pick1 } := by
  have still : x ≠ .update → s.update.inFlight.map enter = s.update.inFlight := by
    intro other
    cases s.update.inFlight with
    | none => rfl
    | some f => exact congrArg some (kept f fun e => absurd e other)
  cases x with
  | build => rw [still (by simp)]; rfl
  | pick0 => rw [still (by simp)]; rfl
  | pick1 => rw [still (by simp)]; rfl
  | update =>
    unfold grantTo Turn.requester enterGrant
    dsimp only [State.withArbiter]
    split
    · rename_i list applied cell c inFlight
      rw [inFlight, Option.map_some, granted rfl ⟨list, applied, cell, .waiting c⟩ c rfl]
      rfl
    · rename_i other
      have same : s.update.inFlight.map enter = s.update.inFlight := by
        cases inFlight : s.update.inFlight with
        | none => rfl
        | some f =>
          refine congrArg some (kept f fun _ c stage => ?_)
          obtain ⟨list, applied, cell, st⟩ := f
          cases stage
          exact other list applied cell c inFlight
      rw [same]
      rfl

/-- Settles O39: the release leaves the table free as it would with nobody waiting, and the arbitration after it makes
the grant that R76 names. -/
theorem nextGrantGoesToCommitThenInTurn : Obligations.NextGrantGoesToCommitThenInTurn := by
  refine ⟨fun s t release which held apply run free => ?_, fun s t made => ⟨fun commit => ?_, ?_, ?_⟩⟩
  · obtain ⟨r, held⟩ := Option.ne_none_iff_exists'.1 held
    rcases which with rfl | rfl | rfl | rfl <;> cases run
    · exact congrArg _ (tableGrant_alike s apply r held free)
    · exact congrArg _ (resolutionEnds_alike s apply r held free)
    · exact congrArg _ (cellApplies_alike s apply r held free)
    · exact congrArg _ (pickCompletes_alike s apply r held free)
  · rw [made, arbitrate_of_next (freeHolder s) .commit rfl (Arbiter.next_commit _ commit)]
    rfl
  · intro noCommit x waits first
    have granted : t = grantTo x.requester (freeHolder s) :=
      made.trans (arbitrate_of_next (freeHolder s) _ rfl (Arbiter.next_turn (freeHolder s).arbiter x noCommit waits first))
    have arbiter := (congrArg State.arbiter granted).trans (grantTo_turn_arbiter x (freeHolder s))
    refine ⟨?_, ?_, ?_, fun r => ?_, fun y other waitsToo => ?_⟩
    · rw [arbiter]
    · rw [arbiter]
    · rw [granted]
      refine grantTo_turn_eq x (freeHolder s) _ (fun update f c stage => ?_) fun f notWaiting => ?_
      · rw [update, stage]
      · split
        · exact absurd ‹_› (notWaiting rfl _)
        · rfl
    · rw [arbiter]
      refine (Requests.get_set _ _ _ _).trans ?_
      by_cases e : r = x.requester <;> simp [e]
    · rw [arbiter]
      exact distance_lt _ x y other (first y waitsToo)
  · intro nobodyWaits
    rw [made]
    exact arbitrate_of_nobody (freeHolder s) nobodyWaits

end Sys2Proof.Claims

/-! ## Boxes and placement (R23, R58, R60) -/

namespace Sys2Proof.Machine

theorem squareBox_eq (c : Point) (w : Int) : squareBox c w =
    ⟨max (-8388608) (min 8388607 (c.x - w)), max (-8388608) (min 8388607 (c.y - w)),
      max (-8388608) (min 8388607 (c.x + w)), max (-8388608) (min 8388607 (c.y + w))⟩ := by
  simp only [squareBox, sat_eq]

/-- Columns and rows ascend with the coordinates (R58). -/
theorem binLine_mono (origin : Int) (k : Nat) {v w : Int} (h : v ≤ w) : binLine origin k v ≤ binLine origin k w :=
  Int.ediv_le_ediv (by positivity) (by omega)

theorem lineInside_iff (n : Int) : lineInside n = true ↔ 0 ≤ n ∧ n ≤ 15 := by
  simp [lineInside]

/-- A bin's number is its column and 16 times its row (R58). -/
theorem binIn_iff (columns rows : Int × Int) (b : BinNo) : binIn columns rows b = true ↔
    columns.1 ≤ (b.val % 16 : Nat) ∧ ((b.val % 16 : Nat) : Int) ≤ columns.2 ∧
      rows.1 ≤ (b.val / 16 : Nat) ∧ ((b.val / 16 : Nat) : Int) ≤ rows.2 := by
  simp only [binIn, Bool.and_eq_true, decide_eq_true_eq]
  omega

theorem Table.mem_binsOf (t : Table) (b : Box) (n : BinNo) :
    n ∈ t.binsOf b ↔ binIn (t.columns b) (t.rows b) n = true := by
  simp [Table.binsOf, allBins]

theorem Table.binsOf_ascending (t : Table) (b : Box) : (t.binsOf b).Pairwise (· < ·) :=
  (List.pairwise_lt_finRange 256).filter _

/-- The lines from a to b of the 16 lines of the window. -/
def linesBetween (a b : Int) : Finset (Fin 16) := {i | a ≤ i.val ∧ (i.val : Int) ≤ b}

theorem card_linesBetween (a b : Int) (low : 0 ≤ a) (le : a ≤ b) (high : b ≤ 15) :
    ((linesBetween a b).card : Int) = b - a + 1 := by
  have interval : linesBetween a b = Finset.Icc ⟨a.toNat, by omega⟩ ⟨b.toNat, by omega⟩ := by
    ext i
    simp only [linesBetween, Finset.mem_filter_univ, Finset.mem_Icc, Fin.le_def]
    omega
  rw [interval, Fin.card_Icc]
  dsimp only
  omega

/-- The bins of a range of columns and a range of rows inside the window, counted (R60). -/
theorem card_binIn (columns rows : Int × Int) (c0 : 0 ≤ columns.1) (c1 : columns.1 ≤ columns.2) (c2 : columns.2 ≤ 15)
    (r0 : 0 ≤ rows.1) (r1 : rows.1 ≤ rows.2) (r2 : rows.2 ≤ 15) :
    ((allBins.filter (binIn columns rows)).length : Int) =
      (columns.2 - columns.1 + 1) * (rows.2 - rows.1 + 1) := by
  have bins : (allBins.filter (binIn columns rows)).toFinset =
      (linesBetween rows.1 rows.2 ×ˢ linesBetween columns.1 columns.2).map finProdFinEquiv.toEmbedding := by
    ext b
    simp only [List.mem_toFinset, List.mem_filter, allBins, List.mem_finRange, true_and, binIn_iff,
      Finset.mem_map_equiv, Finset.mem_product, linesBetween, Finset.mem_filter_univ]
    exact and_assoc.symm.trans and_comm
  have nodup : (allBins.filter (binIn columns rows)).Nodup := (List.nodup_finRange 256).filter _
  rw [← List.toFinset_card_of_nodup nodup, bins, Finset.card_map, Finset.card_product,
    Nat.cast_mul, card_linesBetween _ _ r0 r1 r2, card_linesBetween _ _ c0 c1 c2, mul_comm]

/-- A box whose corners are in order lies inside the window when its outer lines do (R60). -/
theorem Table.boxInside_iff (t : Table) (b : Box) (x : b.xmin ≤ b.xmax) (y : b.ymin ≤ b.ymax) :
    t.boxInside b = true ↔
      0 ≤ (t.columns b).1 ∧ (t.columns b).2 ≤ 15 ∧ 0 ≤ (t.rows b).1 ∧ (t.rows b).2 ≤ 15 := by
  have columns : (t.columns b).1 ≤ (t.columns b).2 := binLine_mono _ _ x
  have rows : (t.rows b).1 ≤ (t.rows b).2 := binLine_mono _ _ y
  simp only [Table.boxInside, Bool.and_eq_true, lineInside_iff]
  omega

theorem Table.binsOf_length (t : Table) (b : Box) (x : b.xmin ≤ b.xmax) (y : b.ymin ≤ b.ymax)
    (inside : t.boxInside b = true) :
    ((t.binsOf b).length : Int) =
      ((t.columns b).2 - (t.columns b).1 + 1) * ((t.rows b).2 - (t.rows b).1 + 1) := by
  obtain ⟨c0, c2, r0, r2⟩ := (t.boxInside_iff b x y).1 inside
  exact card_binIn _ _ c0 (binLine_mono _ _ x) c2 r0 (binLine_mono _ _ y) r2

/-- The conditions for bins, in numbers of lines (R60). -/
theorem Table.fits_iff (t : Table) (b : Box) (x : b.xmin ≤ b.xmax) (y : b.ymin ≤ b.ymax) :
    let count := ((t.columns b).2 - (t.columns b).1 + 1) * ((t.rows b).2 - (t.rows b).1 + 1)
    (t.boxInside b = true ∧ (t.binsOf b).length ≤ Config.maxBinsPerTarget ∧ (t.binsOf b).length ≤ t.freeRefs) ↔
      (0 ≤ (t.columns b).1 ∧ (t.columns b).2 ≤ 15 ∧ 0 ≤ (t.rows b).1 ∧ (t.rows b).2 ≤ 15 ∧ count ≤ 8 ∧
        count ≤ t.freeRefs) := by
  intro count
  by_cases inside : t.boxInside b = true
  · have length : ((t.binsOf b).length : Int) = count := t.binsOf_length b x y inside
    obtain ⟨c0, c2, r0, r2⟩ := (t.boxInside_iff b x y).1 inside
    simp only [inside, c0, c2, r0, r2, true_and, ← length, show Config.maxBinsPerTarget = 8 from rfl]
    omega
  · refine ⟨fun ⟨yes, _⟩ => absurd yes inside, fun ⟨c0, c2, r0, r2, _⟩ => ?_⟩
    exact absurd ((t.boxInside_iff b x y).2 ⟨c0, c2, r0, r2⟩) inside

theorem Table.place_eq (t : Table) (b : Box) : t.place b =
    if t.boxInside b = true ∧ (t.binsOf b).length ≤ Config.maxBinsPerTarget ∧ (t.binsOf b).length ≤ t.freeRefs then
      some (.bins (t.binsOf b))
    else if t.wide.length < 64 then some .wide else none := rfl

end Sys2Proof.Machine

namespace Sys2Proof.Claims

open Sys2Proof.Machine

/-- Settles O35: the number of bins a box overlaps is its number of columns times its number of rows. -/
theorem placementByTheThreeConditions : Obligations.PlacementByTheThreeConditions := by
  refine ⟨fun p => rfl, fun a b => rfl, fun c r => squareBox_eq c r, fun t box x y => ?_⟩
  intro column row count fits
  have conditions : _ ↔ fits := t.fits_iff box x y
  rw [t.place_eq]
  refine ⟨fun yes => ?_, fun no room => ?_, fun no full => ?_⟩
  · have holds := conditions.2 yes
    refine ⟨t.binsOf box, if_pos holds, t.binsOf_length box x y holds.1, t.binsOf_ascending box, fun b => ?_⟩
    exact (t.mem_binsOf box b).trans (binIn_iff _ _ b)
  · rw [if_neg (conditions.not.2 no), if_pos room]
  · rw [if_neg (conditions.not.2 no), if_neg (not_lt.2 full)]

end Sys2Proof.Claims

/-! ## Handles, the lowest FREE slot and INSERT (R56, R57, R60, R64) -/

namespace Sys2Proof.Machine

open Sys2Proof.Claims

/-- A handle's 16-bit form as a number (R192). -/
theorem Handle.code_toNat (h : Handle) : h.code.toNat = h.tag.toNat * 1024 + h.slot.val := by
  have slot : h.slot.val < 2 ^ 10 := h.slot.isLt
  unfold Handle.code
  rw [BitVec.toNat_append, BitVec.toNat_append, BitVec.toNat_ofNat, Nat.mod_eq_of_lt slot,
    ← Nat.shiftLeft_add_eq_or_of_lt slot]
  simp [Nat.shiftLeft_eq]

theorem Handle.code_word (h : Handle) :
    h.code.setWidth 32 = BitVec.ofNat 32 (h.tag.toNat * 1024 + h.slot.val) := by
  rw [← h.code_toNat, BitVec.ofNat_toNat]

/-- The lowest FREE slot (R57). -/
theorem Table.lowestFree_eq_some (t : Table) (n : SlotNo) :
    t.lowestFree = some n ↔ t.target n = none ∧ ∀ m, m < n → t.target m ≠ none := by
  unfold Table.lowestFree allSlots
  rw [List.find?_eq_some_iff_getElem]
  simp only [Table.isFree, Option.isNone_iff_eq_none, List.getElem_finRange, Bool.not_eq_true',
    Option.isNone_eq_false_iff, Option.isSome_iff_ne_none]
  refine and_congr_right fun _ => ⟨?_, fun before => ?_⟩
  · rintro ⟨i, bound, rfl, before⟩ m lt
    exact before m.val lt
  · exact ⟨n.val, by simp, Fin.ext (by simp), fun j lt => before _ (Fin.lt_def.2 (by simpa using lt))⟩

theorem Table.lowestFree_eq_none (t : Table) : t.lowestFree = none ↔ ∀ n, t.target n ≠ none := by
  simp [Table.lowestFree, allSlots, Table.isFree]

/-- The tests of an INSERT in their order (R64). -/
theorem insertShape_eq (c : Cell) :
    insertShape c = if 3 ≤ c.kind then .error .badKind else (legalShape c).elim (.error .outOfRange) .ok := by
  unfold insertShape legalShape
  split
  · rename_i kind
    by_cases range : c.p0.inWorld = true <;> simp [kind, range]
  · rename_i kind
    by_cases range : c.p0.inWorld = true ∧ c.p1.inWorld = true <;> simp [kind, range]
  · rename_i kind
    have tests : (c.p0.inWorld && decide (0 ≤ c.third.toInt) && decide (c.third.toInt ≤ Config.worldMax)) = true ↔
        c.p0.inWorld = true ∧ 0 ≤ c.third.toInt ∧ c.third.toInt ≤ 8388607 := by
      rw [Bool.and_eq_true, Bool.and_eq_true, decide_eq_true_iff, decide_eq_true_iff, and_assoc]
      rfl
    simp only [tests, kind, false_and, if_false, true_and, OfNat.ofNat_ne_zero, OfNat.ofNat_ne_one]
    by_cases range : c.p0.inWorld = true ∧ 0 ≤ c.third.toInt ∧ c.third.toInt ≤ 8388607
    · rw [if_pos range, if_pos range]
      rfl
    · rw [if_neg range, if_neg range]
      rfl
  · rename_i k0 k1 k2
    rw [if_pos]
    by_contra
    rcases (by omega : c.kind = 0 ∨ c.kind = 1 ∨ c.kind = 2) with k | k | k
    · exact k0 k
    · exact k1 k
    · exact k2 k

theorem insertShape_badKind (c : Cell) (kind : 3 ≤ c.kind) : insertShape c = .error .badKind := by
  rw [insertShape_eq, if_pos kind]

theorem insertShape_outOfRange (c : Cell) (kind : c.kind < 3) (illegal : legalShape c = none) :
    insertShape c = .error .outOfRange := by
  rw [insertShape_eq, if_neg (not_le.2 kind), illegal]
  rfl

theorem insertShape_legal (c : Cell) (shape : Shape) (legal : legalShape c = some shape) :
    insertShape c = .ok shape := by
  have kind : ¬ 3 ≤ c.kind := by
    intro bad
    unfold legalShape at legal
    rw [if_neg (by omega), if_neg (by omega), if_neg (by omega)] at legal
    cases legal
  rw [insertShape_eq, if_neg kind, legal]
  rfl

/-- A refused INSERT leaves the table (R64). -/
theorem Table.insert_error (t : Table) (c : Cell) (r : CellResult) (h : insertShape c = .error r) :
    t.insert c = insertRefused t r := by
  unfold Table.insert
  rw [h]

theorem Table.insert_full (t : Table) (c : Cell) (shape : Shape) (h : insertShape c = .ok shape)
    (full : t.lowestFree = none) : t.insert c = insertRefused t .tableFull := by
  unfold Table.insert
  rw [h]
  dsimp only
  rw [full]

theorem Table.insert_unplaced (t : Table) (c : Cell) (shape : Shape) (n : SlotNo) (h : insertShape c = .ok shape)
    (free : t.lowestFree = some n) (unplaced : t.place shape.box = none) :
    t.insert c = insertRefused t .wideFull := by
  unfold Table.insert
  rw [h]
  dsimp only
  rw [free]
  dsimp only
  rw [unplaced]

theorem Table.insert_placed (t : Table) (c : Cell) (shape : Shape) (n : SlotNo) (p : Placement)
    (h : insertShape c = .ok shape) (free : t.lowestFree = some n) (place : t.place shape.box = some p) :
    t.insert c = ⟨(t.take n ⟨shape, .application, c.tag, p⟩).advance, .ok,
      some ((t.handleAt n).code.setWidth 32)⟩ := by
  unfold Table.insert
  rw [h]
  dsimp only
  rw [free]
  dsimp only
  rw [place]

/-- What an INSERT that is not OK leaves (R64). -/
theorem Table.insert_refused (t : Table) (c : Cell) (h : (t.insert c).result ≠ .ok) :
    (t.insert c).table = t ∧ (t.insert c).handleWord = some 0xFFFF := by
  revert h
  unfold Table.insert
  split
  · exact fun _ => ⟨rfl, rfl⟩
  · split
    · exact fun _ => ⟨rfl, rfl⟩
    · split
      · exact fun _ => ⟨rfl, rfl⟩
      · exact fun h => absurd rfl h

/-- A placement names each bin once and finds a reference for each (R60). -/
theorem Table.place_once (t : Table) (b : Box) (p : Placement) (h : t.place b = some p) : p.Once := by
  intro l e
  rcases t.place_cases b p h with ⟨k, -⟩ | ⟨k, -⟩ <;> rw [k] at e <;> cases e
  exact t.binsOf_nodup b

theorem Table.place_room (t : Table) (b : Box) (p : Placement) (h : t.place b = some p) (l : List BinNo)
    (e : p = .bins l) : l.length ≤ t.freeRefs := by
  rcases t.place_cases b p h with ⟨k, -, -, room⟩ | ⟨k, -⟩ <;> rw [k] at e <;> cases e
  exact room

/-- Entering takes a reference for each bin (R59). -/
theorem Table.enter_freeRefs (t : Table) (n : SlotNo) (l : List BinNo) (room : l.length ≤ t.freeRefs) :
    (t.enter n (.bins l)).freeRefs + l.length = t.freeRefs := Nat.sub_add_cancel room

theorem Table.take_slot_same (t : Table) (n : SlotNo) (g : Target) :
    (t.take n g).slots[n] = ⟨(t.slots[n]).reuse, some g⟩ := by
  rw [t.take_slots, if_pos rfl]

theorem Table.take_slot_other (t : Table) (n m : SlotNo) (g : Target) (other : m ≠ n) :
    (t.take n g).slots[m] = t.slots[m] := by
  rw [t.take_slots, if_neg other]

/-- Writing a record keeps the window and the generation. -/
theorem Table.take_counted (t : Table) (n : SlotNo) (g : Target) : Counted t (t.take n g).advance True := by
  obtain ⟨-, -, x, y, k, generation⟩ := t.enter_kept n g.placement
  refine ⟨x, y, k, fun _ => ?_, fun no => absurd trivial no⟩
  show (t.enter n g.placement).generation + 1 = _
  rw [generation]

end Sys2Proof.Machine

namespace Sys2Proof.Claims

open Sys2Proof.Machine

/-- Settles O34, by the tests of an INSERT in their order. -/
theorem insertTakesTheLowestFreeSlot : Obligations.InsertTakesTheLowestFreeSlot := by
  intro t c op o
  have made : o = t.insert c := by
    simp only [o, Table.applyOp, op]
  clear_value o
  subst made
  refine ⟨t.insert_refused c, fun kind => ?_, fun kind illegal => ?_,
    fun shape legal => ⟨fun full => ?_, fun n free low => ⟨fun unplaced => ?_, fun p place => ?_⟩⟩⟩
  · rw [t.insert_error c _ (insertShape_badKind c kind)]
    rfl
  · rw [t.insert_error c _ (insertShape_outOfRange c kind illegal)]
    rfl
  · rw [t.insert_full c shape (insertShape_legal c shape legal) (t.lowestFree_eq_none.2 full)]
    rfl
  · rw [t.insert_unplaced c shape n (insertShape_legal c shape legal) ((t.lowestFree_eq_some n).2 ⟨free, low⟩) unplaced]
    rfl
  · have once := t.place_once _ p place
    have room := t.place_room _ p place
    rw [t.insert_placed c shape n p (insertShape_legal c shape legal) ((t.lowestFree_eq_some n).2 ⟨free, low⟩) place]
    refine ⟨rfl, congrArg some (t.handleAt n).code_word, t.take_slot_same n _,
      fun m other => t.take_slot_other n m _ other, fun b m => t.enter_binHas n m p once b,
      fun m => t.enter_mem_wide n m p, fun l e => ?_, fun e => ?_,
      (t.enter_kept n p).2.1, t.take_counted n _⟩
    · show (t.enter n p).freeRefs + l.length = t.freeRefs
      rw [e]
      exact t.enter_freeRefs n l (room l e)
    · show (t.enter n p).freeRefs = t.freeRefs
      rw [e]
      rfl

end Sys2Proof.Claims

/-! ## Releases of targets (R56, R63, R65 to R68, R74) -/

namespace Sys2Proof.Machine

open Sys2Proof.Claims

/-- The slots after the release of several: the OCCUPIED ones among them are FREE with their tags advanced (R56, R63). -/
theorem Table.releaseAll_slots (l : List SlotNo) (t : Table) (m : SlotNo) :
    (t.releaseAll l).slots[m] =
      if m ∈ l ∧ t.target m ≠ none then ⟨(t.slots[m]).reuse + 1, none⟩ else t.slots[m] := by
  induction l generalizing t with
  | nil => simp [Table.releaseAll]
  | cons n rest ih =>
    rw [t.releaseAll_cons, ih]
    by_cases free : t.target n = none
    · rw [t.release_free n free]
      by_cases e : m = n
      · subst e
        simp [free]
      · simp [e]
    · rw [t.release_slots n m free, t.release_target]
      by_cases e : m = n
      · subst e
        simp [free]
      · simp [e]

theorem Table.releaseAll_released (t : Table) (l : List SlotNo) (gone : SlotNo → Prop)
    (mem : ∀ n, gone n ↔ n ∈ l ∧ t.target n ≠ none) : Released t (t.releaseAll l) gone := by
  intro n
  rw [mem]
  exact ⟨fun yes => (t.releaseAll_slots l n).trans (if_pos yes), fun no => (t.releaseAll_slots l n).trans (if_neg no)⟩

/-- A FREE slot of a lawful table stands in no bin and in neither list (R59, R70). -/
theorem Table.Law.enteredNowhere {t : Table} {cap : Nat} (h : t.Law cap) {n : SlotNo} (free : t.target n = none) :
    EnteredNowhere t n := by
  refine ⟨fun b => ?_, ?_, ?_⟩
  · rw [h.bins, free]
    simp
  · rw [h.wide, free]
    simp
  · rw [h.learned, free]
    simp

/-- A released slot stands in no bin and in neither list (R63). -/
theorem Table.Law.releaseAll_enteredNowhere {t : Table} {cap : Nat} (h : t.Law cap) {l : List SlotNo} {n : SlotNo}
    (mem : n ∈ l) : EnteredNowhere (t.releaseAll l) n :=
  (h.releaseAll l).enteredNowhere (by rw [t.releaseAll_target, if_pos mem])

/-- The release of some OCCUPIED slots as a table op: they alone are released, and the generation advances when there
are any (R63, R66, R68, R74). -/
theorem Table.Law.drop_outcome {t : Table} {cap : Nat} (h : t.Law cap) (l : List SlotNo) (gone : SlotNo → Prop)
    (mem : ∀ n, n ∈ l ↔ gone n) (occupied : ∀ n, gone n → t.target n ≠ none) :
    Released t (t.drop l) gone ∧ (∀ n, gone n → EnteredNowhere (t.drop l) n) ∧
      Counted t (t.drop l) (∃ n, gone n) := by
  unfold Table.drop
  split
  · rename_i nothing
    have still : ∀ n, ¬ gone n := fun n yes => by simpa [nothing] using (mem n).2 yes
    exact ⟨fun n => ⟨fun yes => absurd yes (still n), fun _ => rfl⟩, fun n yes => absurd yes (still n),
      rfl, rfl, rfl, fun ⟨n, yes⟩ => absurd yes (still n), fun _ => rfl⟩
  · rename_i some
    obtain ⟨n, hn⟩ := List.exists_mem_of_ne_nil l some
    obtain ⟨x, y, k, generation⟩ := Table.releaseAll_window l t
    refine ⟨t.releaseAll_released l gone fun n => ?_, fun n yes => h.releaseAll_enteredNowhere ((mem n).2 yes),
      x, y, k, fun _ => congrArg (· + 1) generation, fun none => absurd ⟨n, (mem n).1 hn⟩ none⟩
    rw [mem]
    exact ⟨fun yes => ⟨yes, occupied n yes⟩, And.left⟩

/-- The handle a 16-bit value names, in numbers (R192). -/
theorem handleOf_eq (v : Half) : handleOf v =
    if v.toNat < 32768 then some ⟨⟨v.toNat % 1024, Nat.mod_lt _ (by decide)⟩, BitVec.ofNat 5 (v.toNat / 1024)⟩
    else none := by
  have top : v.getLsbD 15 = decide (32768 ≤ v.toNat) := BitVec.msb_eq_decide v
  have slot : (v.extractLsb' 0 10).toFin = (⟨v.toNat % 1024, Nat.mod_lt _ (by decide)⟩ : SlotNo) := by
    apply Fin.ext
    simp
  have tag : v.extractLsb' 10 5 = BitVec.ofNat 5 (v.toNat / 1024) := by
    apply BitVec.eq_of_toNat_eq
    simp [Nat.shiftRight_eq_div_pow]
  unfold handleOf
  rw [top, slot, tag]
  by_cases none : 32768 ≤ v.toNat
  · rw [if_pos (decide_eq_true none), if_neg (not_lt.2 none)]
  · rw [if_neg (by simpa using none), if_pos (not_le.1 none)]

/-- A reuse tag, five bits wide, is a number that fits them. -/
theorem reuse_eq_ofNat_iff (r : BitVec 5) (n : Nat) (fits : n < 32) : r = BitVec.ofNat 5 n ↔ n = r.toNat := by
  rw [← BitVec.toNat_inj, BitVec.toNat_ofNat, Nat.mod_eq_of_lt fits, eq_comm]

/-- A DELETE in numbers: the slot and the tag that the low half of its handle word names (R65, R192). -/
theorem Table.delete_eq (t : Table) (c : Cell) (v : Nat) (n : SlotNo) (value : v = c.handleWord.toNat % 65536)
    (slot : n.val = v % 1024) :
    t.delete c =
      if v / 1024 = (t.slots[n]).reuse.toNat ∧ t.target n ≠ none then ⟨t.drop [n], .ok, none⟩
      else ⟨t, .staleHandle, none⟩ := by
  have handle : c.handle.toNat = v := by
    rw [value]
    simp [Cell.handle]
  have same : (⟨c.handle.toNat % 1024, Nat.mod_lt _ (by decide)⟩ : SlotNo) = n := Fin.ext (by rw [handle, slot])
  have small : (t.slots[n]).reuse.toNat < 32 := (t.slots[n]).reuse.isLt
  unfold Table.delete
  rw [handleOf_eq, same, handle]
  by_cases form : v < 32768
  · rw [if_pos form]
    dsimp only [Table.named]
    simp only [reuse_eq_ofNat_iff _ (v / 1024) (by omega)]
    by_cases tag : v / 1024 = (t.slots[n]).reuse.toNat
    · rw [if_pos tag]
      cases target : t.target n with
      | none => rw [if_neg fun h => h.2 rfl]
      | some g =>
        rw [if_pos ⟨tag, Option.some_ne_none g⟩]
        rfl
    · rw [if_neg tag, if_neg fun h => tag h.1]
  · rw [if_neg form, if_neg fun h => by omega]

/-- A slot is one of those DELETE_CLASS releases (R66). -/
theorem Table.classMatches_iff (t : Table) (mask matchTag : Half) (n : SlotNo) :
    t.classMatches mask matchTag n = true ↔
      ∃ g, t.target n = some g ∧ g.origin = .application ∧ g.tag &&& mask = matchTag &&& mask := by
  unfold Table.classMatches
  cases t.target n <;> simp

/-- A lawful table in which no slot is OCCUPIED holds no entry and every reference (R59). -/
theorem Table.Law.empty {t : Table} {cap : Nat} (h : t.Law cap) (free : ∀ n, t.target n = none) :
    (∀ b : BinNo, t.bins[b] = []) ∧ t.wide = [] ∧ t.learned = [] ∧ t.freeRefs = 2048 := by
  have nowhere := fun n => h.enteredNowhere (free n)
  have bins : ∀ b : BinNo, t.bins[b] = [] := fun b => List.eq_nil_iff_forall_not_mem.2 fun n => (nowhere n).1 b
  refine ⟨bins, List.eq_nil_iff_forall_not_mem.2 fun n => (nowhere n).2.1,
    List.eq_nil_iff_forall_not_mem.2 fun n => (nowhere n).2.2, ?_⟩
  have refs := h.refs
  rw [t.refsUsed_eq, Finset.sum_eq_zero fun b _ => by rw [bins b]; rfl, Nat.zero_add] at refs
  exact refs

/-- CLEAR with legal operands releases every target and sets the window (R67). -/
theorem Table.clear_legal (t : Table) (c : Cell) (origin : c.p0.inWorld = true) (low : 4 ≤ c.third.toInt)
    (high : c.third.toInt ≤ 19) :
    t.clear c =
      ⟨{ t.releaseAll (allSlots.filter fun n => !t.isFree n) with
          originX := c.p0.x, originY := c.p0.y, k := c.third.toInt.toNat }.advance, .ok, none⟩ := by
  unfold Table.clear
  rw [if_neg (by simp [origin]), if_neg (by omega)]

end Sys2Proof.Machine

namespace Sys2Proof.Claims

open Sys2Proof.Machine

/-- The outcome of an op that releases the slots of a list and hands back their number (R66, R68). -/
theorem drop_counts {t : Table} {cap : Nat} (law : t.Law cap) (l : List SlotNo) (gone : SlotNo → Prop)
    (nodup : l.Nodup) (mem : ∀ n, n ∈ l ↔ gone n) (occupied : ∀ n, gone n → t.target n ≠ none) :
    let o : TableOutcome := ⟨t.drop l, .ok, some (BitVec.ofNat 32 l.length)⟩
    o.result = .ok ∧ Released t o.table gone ∧ (∀ n, gone n → EnteredNowhere o.table n) ∧
      Counted t o.table (∃ n, gone n) ∧
      ∃ l : List SlotNo, l.Nodup ∧ (∀ n, n ∈ l ↔ gone n) ∧ o.handleWord = some (BitVec.ofNat 32 l.length) := by
  obtain ⟨released, nowhere, counted⟩ := law.drop_outcome l gone mem occupied
  exact ⟨rfl, released, nowhere, counted, l, nodup, mem, rfl⟩

/-- Settles O36: each op releases the slots of a list, under the table's law. -/
theorem removalsReleaseTheirTargets : Obligations.RemovalsReleaseTheirTargets := by
  intro t cap c law o
  refine ⟨fun op => ?_, fun op => ?_, fun op => ?_⟩
  · have made : o = t.delete c := by simp only [o, Table.applyOp, op]
    intro v n
    rw [made, t.delete_eq c v n rfl rfl]
    refine ⟨?_, fun stale => ?_, fun tag target => ?_⟩
    · split <;> rfl
    · rw [if_neg fun ⟨tag, target⟩ => stale.elim (· tag) target]
      exact ⟨rfl, rfl⟩
    · rw [if_pos ⟨tag, target⟩]
      obtain ⟨released, nowhere, x, y, k, counted, -⟩ := law.drop_outcome [n] (· = n) (by simp) fun m e => e ▸ target
      exact ⟨rfl, released, nowhere n rfl, x, y, k, fun _ => counted ⟨n, rfl⟩, fun no => absurd trivial no⟩
  · intro gone
    have occupied : ∀ n, gone n → t.target n ≠ none := fun n ⟨g, target, _⟩ => by simp [target]
    rcases op with op | op
    · have made : o = t.deleteClass c := by simp only [o, Table.applyOp, op]
      rw [made]
      refine drop_counts law _ gone ((List.nodup_finRange 1024).filter _) (fun n => ?_) occupied
      simp [allSlots, t.classMatches_iff, gone, op]
    · have made : o = t.forgetLearned := by simp only [o, Table.applyOp, op]
      rw [made]
      refine drop_counts law _ gone law.learnedOnce (fun n => ?_) occupied
      simp [law.learned n, gone, op]
  · have made : o = t.clear c := by simp only [o, Table.applyOp, op]
    intro k
    rw [made]
    refine ⟨fun outside => ?_, fun inside size => ?_, fun inside low high => ?_⟩
    · unfold Table.clear
      rw [if_pos outside]
    · unfold Table.clear
      rw [if_neg (by simp [inside]), if_pos size]
    · rw [t.clear_legal c inside low high]
      have free := t.releaseOccupied_target
      have occupied : ∀ n, t.target n ≠ none ↔
          n ∈ allSlots.filter (fun n => !t.isFree n) ∧ t.target n ≠ none := by
        intro n
        simp [allSlots, Table.isFree, Option.isSome_iff_ne_none]
      generalize allSlots.filter (fun n => !t.isFree n) = l at *
      obtain ⟨bins, wide, learned, refs⟩ := (law.releaseAll l).empty free
      obtain ⟨-, -, -, generation⟩ := Table.releaseAll_window l t
      exact ⟨rfl, rfl, t.releaseAll_released l _ occupied, free, bins, wide, learned, refs, rfl, rfl,
        Int.toNat_of_nonneg (by omega), congrArg (· + 1) generation⟩

end Sys2Proof.Claims

/-! ## The gather (R62) -/

namespace Sys2Proof.Machine

/-- The corners of a target's box are in order (R23). -/
theorem Shape.box_ordered (shape : Shape) : shape.box.xmin ≤ shape.box.xmax ∧ shape.box.ymin ≤ shape.box.ymax := by
  cases shape with
  | point p => exact ⟨le_rfl, le_rfl⟩
  | segment a b => exact ⟨min_le_max, min_le_max⟩
  | circle c r =>
    simp only [Shape.box, squareBox_eq]
    omega

/-- The gather takes the slots of the bins the query box reaches, and the wide list (R62). -/
theorem Table.mem_gather (t : Table) (q : Box) (n : SlotNo) :
    n ∈ t.gather q ↔ (∃ b, b ∈ t.binsOf q ∧ t.binHas b n) ∨ n ∈ t.wide := by
  simp [Table.gather, Table.binsOf, Table.binHas, allSlots, and_assoc]

/-- The gather ascends and names each slot once (R62). -/
theorem Table.gather_ascending (t : Table) (q : Box) : (t.gather q).Pairwise (· < ·) := by
  unfold Table.gather allSlots
  exact (List.pairwise_lt_finRange 1024).filter _

/-- Two ranges of lines that meet, the first of them inside the window, share the line where the later one begins. -/
theorem meeting_line (a b c d : Int) (low : 0 ≤ a) (high : b ≤ 15) (first : a ≤ b) (ad : a ≤ d) (cb : c ≤ b)
    (second : c ≤ d) : ∃ i : Nat, i < 16 ∧ (a ≤ i ∧ (i : Int) ≤ b) ∧ c ≤ i ∧ (i : Int) ≤ d :=
  ⟨(max a c).toNat, by omega⟩

/-- Boxes that meet, the first of them inside the window, share a bin (R60, R62). -/
theorem Table.binsOf_meet (t : Table) (b q : Box) (inside : t.boxInside b = true) (bx : b.xmin ≤ b.xmax)
    (by_ : b.ymin ≤ b.ymax) (qx : q.xmin ≤ q.xmax) (qy : q.ymin ≤ q.ymax) (x1 : b.xmin ≤ q.xmax)
    (x2 : q.xmin ≤ b.xmax) (y1 : b.ymin ≤ q.ymax) (y2 : q.ymin ≤ b.ymax) :
    ∃ n, n ∈ t.binsOf b ∧ n ∈ t.binsOf q := by
  obtain ⟨c0, c2, r0, r2⟩ := (t.boxInside_iff b bx by_).1 inside
  obtain ⟨c, hc, columnB, columnQ⟩ := meeting_line _ _ (t.columns q).1 (t.columns q).2 c0 c2 (binLine_mono _ _ bx)
    (binLine_mono _ _ x1) (binLine_mono _ _ x2) (binLine_mono _ _ qx)
  obtain ⟨r, hr, rowB, rowQ⟩ := meeting_line _ _ (t.rows q).1 (t.rows q).2 r0 r2 (binLine_mono _ _ by_)
    (binLine_mono _ _ y1) (binLine_mono _ _ y2) (binLine_mono _ _ qy)
  have column : (16 * r + c) % 16 = c := by omega
  have row : (16 * r + c) / 16 = r := by omega
  refine ⟨⟨16 * r + c, by omega⟩, ?_, ?_⟩
  · rw [t.mem_binsOf, binIn_iff, column, row]
    exact ⟨columnB.1, columnB.2, rowB⟩
  · rw [t.mem_binsOf, binIn_iff, column, row]
    exact ⟨columnQ.1, columnQ.2, rowQ⟩

end Sys2Proof.Machine

namespace Sys2Proof.Claims

open Sys2Proof.Machine

/-- Settles O38: a target is in the wide list, or in every bin of its box, one of which the query box shares. -/
theorem gatherMissesNoTarget : Obligations.GatherMissesNoTarget := by
  intro t cap q law qx qy
  refine ⟨t.gather_ascending q, fun n mem => ?_, fun n wide => ?_, fun n g target x1 x2 y1 y2 => ?_⟩
  · rcases (t.mem_gather q n).1 mem with ⟨b, -, has⟩ | wide
    · obtain ⟨g, l, target, -⟩ := (law.bins b n).1 has
      simp [target]
    · obtain ⟨g, target, -⟩ := (law.wide n).1 wide
      simp [target]
  · exact (t.mem_gather q n).2 (.inr wide)
  · rw [t.mem_gather]
    cases placement : g.placement with
    | wide => exact .inr ((law.wide n).2 ⟨g, target, placement⟩)
    | bins l =>
      obtain ⟨inside, bins, -⟩ := law.placed n g l target placement
      obtain ⟨bx, by_⟩ := g.shape.box_ordered
      obtain ⟨b, own, reached⟩ := t.binsOf_meet g.shape.box q inside bx by_ qx qy x1 x2 y1 y2
      exact .inl ⟨b, reached, (law.bins b n).2 ⟨g, l, target, placement, bins ▸ own⟩⟩

end Sys2Proof.Claims

/-! ## Learning (R71, R72) -/

namespace Sys2Proof.Machine

open Sys2Proof.Claims

/-! ### The release of the oldest learned points -/

theorem filter_not_mem_take {α : Type} [DecidableEq α] (l : List α) (once : l.Nodup) (k : Nat) :
    l.filter (· ∉ l.take k) = l.drop k := by
  have apart := List.disjoint_take_drop once (le_refl k)
  have split := List.take_append_drop k l
  generalize l.take k = chosen at *
  generalize l.drop k = left at *
  subst split
  rw [List.filter_append, List.filter_eq_nil_iff.2 fun a mem => by simpa using mem,
    List.filter_eq_self.2 fun a mem => by simpa using fun bad => apart bad mem, List.nil_append]

/-- Under the law a release takes exactly its slots out of the bins (R59, R63). -/
theorem Table.Law.releaseAll_binHas {t : Table} {cap : Nat} (h : t.Law cap) (l : List SlotNo) (b : BinNo)
    (n : SlotNo) : (t.releaseAll l).binHas b n ↔ t.binHas b n ∧ n ∉ l := by
  rw [(h.releaseAll l).bins, h.bins, t.releaseAll_target]
  by_cases mem : n ∈ l <;> simp [mem]

/-- Under the law a release takes exactly its slots out of the wide list (R59, R63). -/
theorem Table.Law.releaseAll_wide {t : Table} {cap : Nat} (h : t.Law cap) (l : List SlotNo) :
    (t.releaseAll l).wide = t.wide.filter (· ∉ l) := by
  refine (h.releaseAll l).wideSorted.eq_of_mem_iff (h.wideSorted.filter _) fun n => ?_
  rw [(h.releaseAll l).wide, List.mem_filter, h.wide, t.releaseAll_target]
  by_cases mem : n ∈ l <;> simp [mem]

/-- The oldest learned points leave the learned list in their order (R70, R72). -/
theorem Table.Law.releaseOldest_learned {t : Table} {cap : Nat} (h : t.Law cap) (k : Nat) :
    (t.releaseAll (t.learned.take k)).learned = t.learned.drop k := by
  rw [((t.law_iff cap).1 h).2.1.releaseAll_learned, filter_not_mem_take _ h.learnedOnce]

theorem Table.Law.learned_occupied {t : Table} {cap : Nat} (h : t.Law cap) {n : SlotNo} (mem : n ∈ t.learned) :
    t.target n ≠ none := by
  obtain ⟨g, target, -⟩ := (h.learned n).1 mem
  simp [target]

/-- The oldest learned points are released, and every other slot stays (R63, R72). -/
theorem Table.Law.releaseOldest_released {t : Table} {cap : Nat} (h : t.Law cap) (k : Nat) :
    Released t (t.releaseAll (t.learned.take k)) (· ∈ t.learned.take k) :=
  t.releaseAll_released _ _ fun _ => ⟨fun mem => ⟨mem, h.learned_occupied (List.mem_of_mem_take mem)⟩, And.left⟩

/-! ### The entry of an equal point -/

theorem Table.learnedAt_iff (t : Table) (p : Point) (n : SlotNo) :
    t.learnedAt p n = true ↔ ∃ g, t.target n = some g ∧ g.shape = .point p := by
  unfold Table.learnedAt
  cases t.target n <;> simp

/-- The one learned target with the point's coordinates is found (R70, R71). -/
theorem Table.Law.find_equal {t : Table} {cap : Nat} (h : t.Law cap) (p : Point) (n : SlotNo) (g : Target)
    (mem : n ∈ t.learned) (target : t.target n = some g) (shape : g.shape = .point p) :
    t.learned.find? (t.learnedAt p) = some n := by
  have equal : t.learnedAt p n = true := (t.learnedAt_iff p n).2 ⟨g, target, shape⟩
  cases found : t.learned.find? (t.learnedAt p) with
  | none => exact absurd equal (List.find?_eq_none.1 found n mem)
  | some m =>
    obtain ⟨g', target', shape'⟩ := (t.learnedAt_iff p m).1 (List.find?_some found)
    refine congrArg some (h.learnedApart m n (List.mem_of_find?_eq_some found) mem ?_)
    rw [target, target', Option.map_some, Option.map_some, shape, shape']

theorem Table.learn_capZero (t : Table) (tag : Half) (p : Point) : t.learn 0 tag p = ⟨t, none, false⟩ := by
  unfold Table.learn
  rw [if_pos rfl]

theorem Table.learn_equal (t : Table) (cap : Nat) (tag : Half) (p : Point) (n : SlotNo) (some_cap : cap ≠ 0)
    (found : t.learned.find? (t.learnedAt p) = some n) :
    t.learn cap tag p =
      ⟨{ t with learned := removeSlot n t.learned ++ [n] }, some (t.handleAt n), false⟩ := by
  unfold Table.learn
  rw [if_neg some_cap, found]

theorem Table.learn_fresh (t : Table) (cap : Nat) (tag : Half) (p : Point) (some_cap : cap ≠ 0)
    (fresh : t.learned.find? (t.learnedAt p) = none) : t.learn cap tag p = t.learnNew cap tag p := by
  unfold Table.learn
  rw [if_neg some_cap, fresh]

/-! ### The room for a new point -/

/-- A table lacks a FREE slot or a placement for the point (R72). -/
def Table.Cramped (t : Table) (p : Point) : Prop := t.lowestFree = none ∨ t.place (Shape.point p).box = none

theorem Table.room_eq_none (t : Table) (p : Point) : t.room p = none ↔ t.Cramped p := by
  unfold Table.room Table.Cramped
  cases t.lowestFree <;> cases t.place (Shape.point p).box <;> simp

/-- Room for the point in the table left by the release of the first `k` of some entries, as few as give room. -/
def Table.FewestRoom (t : Table) (p : Point) (l : List SlotNo) (k : Nat) (n : SlotNo) (q : Placement) : Prop :=
  k ≤ l.length ∧ (t.releaseAll (l.take k)).lowestFree = some n ∧
    (t.releaseAll (l.take k)).place (Shape.point p).box = some q ∧
    ∀ j, j < k → (t.releaseAll (l.take j)).Cramped p

/-- With room in the table itself no entry is released. -/
theorem Table.FewestRoom.zero {t : Table} {p : Point} {l : List SlotNo} {n : SlotNo} {q : Placement}
    (room : t.lowestFree = some n ∧ t.place (Shape.point p).box = some q) : t.FewestRoom p l 0 n q :=
  ⟨Nat.zero_le _, room.1, room.2, fun j lt => absurd lt (Nat.not_lt_zero j)⟩

/-- Without room before, and with room after the release of the oldest entry, that entry is one of the fewest. -/
theorem Table.FewestRoom.cons {t : Table} {p : Point} {oldest : SlotNo} {rest : List SlotNo} {k : Nat} {n : SlotNo}
    {q : Placement} (h : (t.release oldest).FewestRoom p rest k n q) (cramped : t.Cramped p) :
    t.FewestRoom p (oldest :: rest) (k + 1) n q := by
  obtain ⟨bound, free, place, fewest⟩ := h
  refine ⟨Nat.succ_le_succ bound, free, place, fun j lt => ?_⟩
  cases j with
  | zero => exact cramped
  | succ j => exact fewest j (Nat.lt_of_succ_lt_succ lt)

/-- Steps 2 and 3 of R72 release as few entries as give room. -/
theorem Table.makeRoom_fewest (p : Point) (l : List SlotNo) (t u : Table) (n : SlotNo) (q : Placement)
    (h : Table.makeRoom p l t = some (u, n, q)) :
    ∃ k, t.FewestRoom p l k n q ∧ u = t.releaseAll (l.take k) := by
  induction l generalizing t with
  | nil =>
    obtain ⟨rfl, room⟩ := t.room_eq u p n q h
    exact ⟨0, .zero room, rfl⟩
  | cons oldest rest ih =>
    rw [Table.makeRoom_cons] at h
    cases found : t.room p with
    | some room =>
      rw [found] at h
      obtain ⟨rfl, now⟩ := t.room_eq u p n q (found.trans h)
      exact ⟨0, .zero now, rfl⟩
    | none =>
      rw [found] at h
      obtain ⟨k, fewest, left⟩ := ih (t.release oldest) h
      exact ⟨k + 1, fewest.cons ((t.room_eq_none p).1 found), left⟩

/-- Room is not made when the release of every entry gives none (R72). -/
theorem Table.makeRoom_none (p : Point) (l : List SlotNo) (t : Table) (h : Table.makeRoom p l t = none) :
    (t.releaseAll l).Cramped p := by
  induction l generalizing t with
  | nil => exact (t.room_eq_none p).1 h
  | cons oldest rest ih =>
    rw [Table.makeRoom_cons] at h
    cases found : t.room p with
    | some room =>
      rw [found] at h
      cases h
    | none =>
      rw [found] at h
      exact ih (t.release oldest) h

/-- The room R72 chooses: step 1, for a full list, then steps 2 and 3. -/
def Table.roomFor (t : Table) (cap : Nat) (p : Point) : Option (Table × SlotNo × Placement) :=
  if t.learned.length < cap then Table.makeRoom p t.learned t
  else
    match t.learned with
    | [] => none
    | oldest :: rest => Table.makeRoom p rest (t.release oldest)

/-- A new point is learned in the room chosen, or skipped (R72). -/
theorem Table.learnNew_eq (t : Table) (cap : Nat) (tag : Half) (p : Point) :
    t.learnNew cap tag p = (t.roomFor cap p).elim ⟨t, none, true⟩ fun (u, n, q) =>
      ⟨(u.enlist n ⟨.point p, .learned, tag, q⟩).advance, some (u.handleAt n), false⟩ := by
  unfold Table.learnNew
  dsimp only
  split
  · rename_i found
    have none_found : t.roomFor cap p = none := found
    rw [none_found, Option.elim_none]
  · rename_i u n q found
    have room : t.roomFor cap p = some (u, n, q) := found
    rw [room, Option.elim_some, u.enlist_learned n _ rfl]

/-- The room is made by as few of the oldest entries as give it, at least one when the list is full (R72). -/
theorem Table.roomFor_some (t u : Table) (cap : Nat) (p : Point) (n : SlotNo) (q : Placement)
    (atMost : t.learned.length ≤ cap) (h : t.roomFor cap p = some (u, n, q)) :
    ∃ k, u = t.releaseAll (t.learned.take k) ∧ (t.learned.length = cap → 1 ≤ k) ∧ k ≤ t.learned.length ∧
      u.lowestFree = some n ∧ u.place (Shape.point p).box = some q ∧
      ∀ j, j < k → (t.learned.length = cap → 1 ≤ j) → (t.releaseAll (t.learned.take j)).Cramped p := by
  unfold Table.roomFor at h
  split at h
  · rename_i short
    obtain ⟨k, ⟨bound, free, place, fewest⟩, rfl⟩ := Table.makeRoom_fewest p _ t u n q h
    exact ⟨k, rfl, fun full => absurd full short.ne, bound, free, place, fun j lt _ => fewest j lt⟩
  · split at h
    · cases h
    · rename_i long _ oldest rest list
      obtain ⟨k, ⟨bound, free, place, fewest⟩, rfl⟩ := Table.makeRoom_fewest p rest _ u n q h
      have full : t.learned.length = cap := le_antisymm atMost (not_lt.1 long)
      rw [list] at full ⊢
      refine ⟨k + 1, rfl, fun _ => Nat.succ_pos k, Nat.succ_le_succ bound, free, place, fun j lt step => ?_⟩
      cases j with
      | zero => exact absurd (step full) (Nat.not_succ_le_zero 0)
      | succ j => exact fewest j (Nat.lt_of_succ_lt_succ lt)

/-- No room is chosen only when the release of every entry gives none (R72). -/
theorem Table.roomFor_none (t : Table) (cap : Nat) (p : Point) (some_cap : cap ≠ 0) (h : t.roomFor cap p = none) :
    (t.releaseAll t.learned).Cramped p := by
  unfold Table.roomFor at h
  split at h
  · exact Table.makeRoom_none p _ t h
  · split at h
    · rename_i long _ list
      rw [list] at long
      exact absurd (Nat.pos_of_ne_zero some_cap) long
    · rename_i long _ oldest rest list
      rw [list]
      exact Table.makeRoom_none p rest _ h

/-- When every learned point is released in vain, either there was none and no slot is FREE, or the point has no
placement (R72). -/
theorem Table.releaseLearned_cramped (t : Table) (p : Point) (h : (t.releaseAll t.learned).Cramped p) :
    (t.learned = [] ∧ ∀ m, t.target m ≠ none) ∨ (t.releaseAll t.learned).place (Shape.point p).box = none := by
  refine h.imp_left fun full => ?_
  have occupied := (Table.lowestFree_eq_none _).1 full
  have nothing : t.learned = [] := List.eq_nil_iff_forall_not_mem.2 fun n mem =>
    occupied n (by rw [t.releaseAll_target, if_pos mem])
  rw [nothing] at occupied
  exact ⟨nothing, occupied⟩

/-! ### The new point's entry -/

/-- The entry of a new point where room was made: its slot's record, every other slot, the bins, the wide list and the
learned list (R57, R59, R72). -/
theorem Table.enlist_newest (u : Table) (n : SlotNo) (p : Point) (tag : Half) (q : Placement)
    (place : u.place (Shape.point p).box = some q) :
    let new := u.enlist n ⟨.point p, .learned, tag, q⟩
    new.slots[n] = ⟨(u.slots[n]).reuse, some ⟨.point p, .learned, tag, q⟩⟩ ∧
      (∀ m, m ≠ n → new.slots[m] = u.slots[m]) ∧ new.learned = u.learned ++ [n] ∧
      (∀ b m, new.binHas b m ↔ u.binHas b m ∨ (m = n ∧ ∃ l, q = .bins l ∧ b ∈ l)) ∧
      (∀ m, m ∈ new.wide ↔ m ∈ u.wide ∨ (m = n ∧ q = .wide)) ∧ new.originX = u.originX ∧
      new.originY = u.originY ∧
      new.k = u.k ∧ new.generation = u.generation := by
  obtain ⟨-, learned, window⟩ := u.enter_kept n q
  exact ⟨u.take_slot_same n _, fun m other => u.take_slot_other n m _ other,
    (congrArg Table.learned (u.enlist_learned n _ rfl)).trans (congrArg (· ++ [n]) learned),
    fun b m => u.enter_binHas n m q (u.place_once _ q place) b, fun m => u.enter_mem_wide n m q, window⟩

end Sys2Proof.Machine

namespace Sys2Proof.Claims

open Sys2Proof.Machine

/-- Settles O37: a new point takes the room the fewest of the oldest entries give, or is skipped when all give none. -/
theorem learningRefreshesEntersOrSkips : Obligations.LearningRefreshesEntersOrSkips := by
  intro t cap tag p law o
  have released := law.releaseOldest_released
  have nowhere : ∀ k, ∀ m ∈ t.learned.take k, EnteredNowhere (t.releaseAll (t.learned.take k)) m :=
    fun k m mem => law.releaseAll_enteredNowhere mem
  refine ⟨t.lowestFree_eq_none, t.lowestFree_eq_some, fun k => ?_, fun zero => ?_, fun n g mem target shape => ?_,
    fun some_cap different => ?_⟩
  · obtain ⟨x, y, e, -⟩ := t.releaseAll_window (t.learned.take k)
    exact ⟨released k, nowhere k, law.releaseOldest_learned k, law.releaseAll_binHas _, law.releaseAll_wide _,
      (law.releaseAll _).refs, x, y, e⟩
  · subst zero
    exact t.learn_capZero tag p
  · have some_cap : cap ≠ 0 := by
      have := List.length_pos_of_mem mem
      have := law.learnedCap
      omega
    exact t.learn_equal cap tag p n some_cap (law.find_equal p n g mem target shape)
  · have fresh : t.learned.find? (t.learnedAt p) = none := by
      refine List.find?_eq_none.2 fun n mem equal => ?_
      obtain ⟨g, target, shape⟩ := (t.learnedAt_iff p n).1 equal
      exact different n g mem target shape
    have made : o = _ := (t.learn_fresh cap tag p some_cap fresh).trans (t.learnNew_eq cap tag p)
    clear_value o
    cases found : t.roomFor cap p with
    | none =>
      rw [found] at made
      exact .inl ⟨made, t.releaseLearned_cramped p (t.roomFor_none cap p some_cap found)⟩
    | some room =>
      obtain ⟨u, n, q⟩ := room
      rw [found] at made
      obtain ⟨k, rfl, full, bound, free, place, fewest⟩ := t.roomFor_some u cap p n q law.learnedCap found
      obtain ⟨new, others, learned, bins, wide, x, y, e, generation⟩ := Table.enlist_newest _ n p tag q place
      obtain ⟨x', y', e', generation'⟩ := t.releaseAll_window (t.learned.take k)
      obtain ⟨freeSlot, lowest⟩ := (Table.lowestFree_eq_some _ n).1 free
      subst made
      refine .inr ⟨k, n, _, q, rfl, rfl, full, bound, fewest, learned.trans ?_, new, ?_, ?_,
        ⟨place, bins, wide, nowhere k⟩, fun m other mem => (others m other).trans ((released k m).1 mem),
        fun m other kept => (others m other).trans ((released k m).2 kept), fun m lt => ?_,
        x.trans x', y.trans y', e.trans e', fun _ => congrArg (· + 1) (generation.trans generation'),
        fun no => absurd trivial no⟩
      · rw [law.releaseOldest_learned]
      · split
        · rename_i mem
          rw [(released k n).1 mem]
        · rename_i kept
          rw [(released k n).2 kept]
      · rw [t.releaseAll_target] at freeSlot
        by_cases mem : n ∈ t.learned.take k
        · exact .inl mem
        · rw [if_neg mem] at freeSlot
          exact .inr freeSlot
      · show Table.target (Table.enlist _ n _) m ≠ none
        rw [Table.enlist_target, if_neg (ne_of_lt lt)]
        exact lowest m lt

end Sys2Proof.Claims

/-! ## What the law of the update engine speaks of (R82, R93, R96, R183) -/

namespace Sys2Proof.Machine

/-- The law of the lists outstanding, in RUN and in RESETTING alike (R82, R83, R89, R90, R93). -/
structure UpdateEngine.ListLaw (u : UpdateEngine) : Prop where
  waiting : u.waiting.isSome = true → u.inFlight.isSome = true
  teardown : u.teardown = true → u.inFlight.isSome = true
  cell : ∀ f, u.inFlight = some f → f.cell ≠ 0 ∧ aligned f.cell = true

/-- What holds of the engine while a reset is in progress, but for its outstanding halves (R96, R114, R145, R169). -/
structure State.StoppedLaw (s : State) : Prop where
  cells : ∀ c, s.stage ≠ some (.waiting c) ∧ s.stage ≠ some (.granted c)
  build : s.builder.build = none
  commit : ∀ c, s.tool.commit = some c → c.resolving = true ∧ c.queued = false ∧ s.resolver.emptying = true
  cleared : s.tool.commit = none →
    s.tool.context = ToolContext.empty ∧ s.tool.drag = Drag.empty ∧ s.tool.log = [] ∧ s.resolver.capture = none

theorem State.updateLaw_iff (s : State) :
    s.UpdateLaw ↔ s.update.ListLaw ∧ (s.engine = .resetting →
      (s.update.inFlight.isSome = true ∨ s.tool.commit.isSome = true) ∧ s.StoppedLaw) := by
  refine ⟨fun h => ⟨⟨h.waiting, h.teardown, h.cell⟩, fun e => ⟨h.resetting e, ?_⟩⟩, fun ⟨lists, reset⟩ => ?_⟩
  · obtain ⟨cells, build, resolving⟩ := h.stopped e
    exact ⟨cells, build, fun c commit => ⟨resolving c commit, h.finishing e c commit⟩, h.cleared e⟩
  · exact
      { waiting := lists.waiting
        teardown := lists.teardown
        cell := lists.cell
        resetting := fun e => (reset e).1
        stopped := fun e =>
          have stopped := (reset e).2
          ⟨stopped.cells, stopped.build, fun c commit => (stopped.commit c commit).1⟩
        finishing := fun e c commit => ((reset e).2.commit c commit).2
        cleared := fun e => (reset e).2.cleared }

theorem State.UpdateLaw.lists {s : State} (h : s.UpdateLaw) : s.update.ListLaw := ((State.updateLaw_iff s).1 h).1

theorem State.UpdateLaw.stoppedLaw {s : State} (h : s.UpdateLaw) (resetting : s.engine = .resetting) : s.StoppedLaw :=
  (((State.updateLaw_iff s).1 h).2 resetting).2

/-- In RUN the law is that of the lists alone. -/
theorem UpdateEngine.ListLaw.in_run {s : State} (lists : s.update.ListLaw) (run : s.engine = .run) : s.UpdateLaw :=
  (State.updateLaw_iff s).2 ⟨lists, fun resetting => by cases run.symm.trans resetting⟩

/-- The pieces of state that the law speaks of. -/
structure Course where
  inFlight : Option InFlight
  waiting : Option Submitted
  teardown : Bool
  engine : EngineState
  context : ToolContext
  drag : Drag
  commit : Option CommitInHand
  log : List CommitRecord
  build : Option Build
  emptying : Bool
  capture : Option FeatureRef

def State.course (s : State) : Course where
  inFlight := s.update.inFlight
  waiting := s.update.waiting
  teardown := s.update.teardown
  engine := s.engine
  context := s.tool.context
  drag := s.tool.drag
  commit := s.tool.commit
  log := s.tool.log
  build := s.builder.build
  emptying := s.resolver.emptying
  capture := s.resolver.capture

theorem State.StoppedLaw.of_course {s t : State} (h : s.StoppedLaw) (same : t.course = s.course) : t.StoppedLaw := by
  injection same with inFlight waiting teardown engine context drag commit log build emptying capture
  refine ⟨?_, ?_, ?_, ?_⟩
  · rw [State.stage, inFlight]
    exact h.cells
  · rw [build]
    exact h.build
  · rw [commit, emptying]
    exact h.commit
  · rw [commit, context, drag, log, capture]
    exact h.cleared

theorem UpdateEngine.ListLaw.congr {u v : UpdateEngine} (h : u.ListLaw) (inFlight : v.inFlight = u.inFlight)
    (waiting : v.waiting = u.waiting) (teardown : v.teardown = u.teardown) : v.ListLaw := by
  refine ⟨?_, ?_, ?_⟩
  · rw [waiting, inFlight]
    exact h.waiting
  · rw [teardown, inFlight]
    exact h.teardown
  · rw [inFlight]
    exact h.cell

/-- The law depends on nothing but the course of lists, commit and reset. -/
theorem State.UpdateLaw.of_course {s t : State} (h : s.UpdateLaw) (same : t.course = s.course) : t.UpdateLaw := by
  have inFlight : t.update.inFlight = s.update.inFlight := congrArg Course.inFlight same
  have commit : t.tool.commit = s.tool.commit := congrArg Course.commit same
  have engine : t.engine = s.engine := congrArg Course.engine same
  obtain ⟨lists, reset⟩ := (State.updateLaw_iff s).1 h
  refine (State.updateLaw_iff t).2
    ⟨lists.congr inFlight (congrArg Course.waiting same) (congrArg Course.teardown same), fun resetting => ?_⟩
  obtain ⟨halves, stopped⟩ := reset (engine ▸ resetting)
  rw [inFlight, commit]
  exact ⟨halves, stopped.of_course same⟩

/-- A list in flight meets the law with whatever waits behind it, once its current cell does (R83, R89). -/
theorem UpdateEngine.ListLaw.of_flight {u : UpdateEngine} {f : InFlight} (flight : u.inFlight = some f)
    (cell : f.cell ≠ 0 ∧ aligned f.cell = true) : u.ListLaw := by
  refine ⟨fun _ => ?_, fun _ => ?_, fun g e => ?_⟩
  · rw [flight]
    rfl
  · rw [flight]
    rfl
  · rw [flight] at e
    cases e
    exact cell

/-- No list outstanding and no teardown pending meet the law (R90). -/
theorem UpdateEngine.ListLaw.of_empty {u : UpdateEngine} (flight : u.inFlight = none) (waiting : u.waiting = none)
    (teardown : u.teardown = false) : u.ListLaw :=
  ⟨fun e => by simp [waiting] at e, fun e => by simp [teardown] at e, fun f e => by simp [flight] at e⟩

/-- Without a list in flight none waits and no teardown is pending (R82, R90). -/
theorem UpdateEngine.ListLaw.empty {u : UpdateEngine} (h : u.ListLaw) (flight : u.inFlight = none) :
    u.waiting = none ∧ u.teardown = false := by
  refine ⟨?_, ?_⟩
  · by_contra waits
    have := h.waiting (Option.isSome_iff_ne_none.2 waits)
    simp [flight] at this
  · by_contra pending
    have := h.teardown (by simpa using pending)
    simp [flight] at this

/-! ### Operations that leave the course as it is -/

theorem LinkFrame.course {s t : State} (h : LinkFrame s t) : t.course = s.course := by
  obtain ⟨l, n, r, rfl⟩ := h
  rfl

theorem accessed_course (port : PortId) (loc : Nat) (s : State) : (accessed port loc s).course = s.course := by
  obtain ⟨p, h⟩ := accessed_frame port loc s
  rw [h]
  rfl

theorem withPick_course (i : PickId) (p : PickSlot) (s : State) : (s.withPick i p).course = s.course := by
  cases i <;> rfl

theorem raisePickDone_course (i : PickId) (s : State) : (raisePickDone i s).course = s.course := by
  cases i <;> rfl

theorem abortPick_course (i : PickId) (s : State) : (abortPick i s).course = s.course := by
  unfold abortPick
  dsimp only
  split
  · rfl
  · rw [raisePickDone_course, withPick_course]
    rfl

theorem frameStart_course (s : State) : (frameStart s).course = s.course := by
  have committed : (commitView s).course = s.course := by
    unfold commitView
    dsimp only
    split
    · rfl
    · split <;> rfl
  exact committed

theorem readStream_course (s : State) : (readStream s).course = s.course := by
  unfold readStream
  dsimp only
  rw [advanceStream_eq]
  rfl

theorem clearNotices_course (port : PortId) (v : Word) (s : State) : (clearNotices port v s).course = s.course := by
  cases port <;> rfl

theorem enableNotices_course (port : PortId) (v : Word) (s : State) : (enableNotices port v s).course = s.course := by
  cases port <;> rfl

theorem disableNotices_course (port : PortId) (v : Word) (s : State) :
    (disableNotices port v s).course = s.course := by
  cases port <;> rfl

theorem staged_course (st : Settings) (s : State) : State.course { s with staged := st } = s.course := rfl

theorem portRead_course (port : PortId) (address : PortAddr) (s : State) :
    (portRead port address s).course = s.course := by
  cases port <;> cases address
  case app.index => rfl
  case disp.index => rfl
  case app.data => exact accessed_course _ _ _
  case disp.data =>
    refine (accessed_course _ _ _).trans ?_
    split
    · exact readStream_course s
    · rfl

/-! ### The shared operations -/

theorem State.flight_of_stage {s : State} {st : Stage} (h : s.stage = some st) :
    ∃ f, s.update.inFlight = some f ∧ f.stage = st := by
  obtain ⟨f, flight, stage⟩ := Option.map_eq_some_iff.1 h
  exact ⟨f, flight, stage⟩

/-- A grant moves the list's cell from WAITING on, which no list of a reset stands in (R85, R96). -/
theorem grantTo_updateLaw (r : Requester) (s : State) (h : s.UpdateLaw) : (grantTo r s).UpdateLaw := by
  cases r with
  | commit => exact h.of_course rfl
  | build => exact h.of_course rfl
  | pick0 => exact h.of_course rfl
  | pick1 => exact h.of_course rfl
  | update =>
    unfold grantTo enterGrant
    dsimp only
    split
    · rename_i list applied cell c flight
      have flight : s.update.inFlight = some ⟨list, applied, cell, .waiting c⟩ := flight
      have legal : cell ≠ 0 ∧ aligned cell = true := h.lists.cell _ flight
      refine (State.updateLaw_iff _).2 ⟨.of_flight rfl legal, fun resetting => ?_⟩
      have stage : s.stage = some (.waiting c) := by rw [State.stage, flight]; rfl
      exact absurd stage ((h.stoppedLaw resetting).cells c).1
    · exact h.of_course rfl

theorem arbitrate_updateLaw (s : State) (h : s.UpdateLaw) : (arbitrate s).UpdateLaw := by
  rcases arbitrate_cases s with ⟨e, -⟩ | ⟨r, -, -, e⟩
  · rw [e]
    exact h
  · rw [e]
    exact grantTo_updateLaw r s h

theorem request_updateLaw (r : Requester) (s : State) (h : s.UpdateLaw) : (request r s).UpdateLaw :=
  arbitrate_updateLaw _ (h.of_course rfl)

/-- The capture's emptying keeps what a reset asks for: the emptying waits, or the capture is empty (R114). -/
theorem emptyCapture_updateLaw (s : State) (h : s.UpdateLaw) : (emptyCapture s).UpdateLaw := by
  obtain ⟨lists, reset⟩ := (State.updateLaw_iff s).1 h
  rw [emptyCapture_eq]
  refine (State.updateLaw_iff _).2 ⟨lists, fun resetting => ?_⟩
  obtain ⟨halves, stopped⟩ := reset resetting
  refine ⟨halves, stopped.cells, stopped.build, fun c commit => ?_, fun noCommit => ?_⟩
  · obtain ⟨resolving, queued, emptying⟩ := stopped.commit c commit
    refine ⟨resolving, queued, ?_⟩
    dsimp only
    rw [emptying, Bool.true_or]
  · obtain ⟨context, drag, log, capture⟩ := stopped.cleared noCommit
    refine ⟨context, drag, log, ?_⟩
    dsimp only
    rw [capture, ite_self]

theorem takeApply_update (s : State) : (takeApply s).update = s.update := by
  obtain ⟨l, n, c, d, h⟩ := takeApply_frame s
  rw [h]

theorem takeApply_engine (s : State) : (takeApply s).engine = s.engine := by
  obtain ⟨l, n, c, d, h⟩ := takeApply_frame s
  rw [h]

/-- A build starts in RUN alone, and leaves the lists (R148, R149). -/
theorem makeBuildStart_updateLaw (s : State) (lists : s.update.ListLaw) (run : s.engine = .run) :
    (makeBuildStart s).UpdateLaw := by
  have begins : ∀ bank u, u.update = s.update → u.engine = s.engine → (beginBuild bank u).UpdateLaw := by
    intro bank u update engine
    have law : (withBuild bank u).UpdateLaw :=
      UpdateEngine.ListLaw.in_run (s := withBuild bank u) (by rw [show (withBuild bank u).update = _ from update]; exact lists)
        (engine.trans run)
    rw [beginBuild_eq_afterSnapshot]
    generalize buildSort (takeSnapshot u) = sort
    cases sort with
    | cursor c mode => exact request_updateLaw _ _ law
    | menu window cell => exact emptyCapture_updateLaw _ law
    | absent => exact law
  unfold makeBuildStart
  split
  · exact lists.in_run run
  · split
    · exact begins _ _ (takeApply_update s) (takeApply_engine s)
    · exact begins _ s rfl rfl

theorem buildDue_run (s : State) (due : buildDue s = true) : s.engine = .run := by
  simp only [buildDue, Bool.and_eq_true, beq_iff_eq] at due
  exact due.2

theorem tryBuildStart_updateLaw (s : State) (h : s.UpdateLaw) : (tryBuildStart s).UpdateLaw := by
  unfold tryBuildStart
  split_ifs with idle
  · exact h
  · exact h
  · exact makeBuildStart_updateLaw s h.lists (buildDue_run s (by simpa using idle))

theorem releaseGrant_updateLaw (s : State) (h : s.UpdateLaw) : (releaseGrant s).UpdateLaw := by
  have freed : (freeHolder s).UpdateLaw := h.of_course rfl
  unfold releaseGrant
  dsimp only
  split
  · rename_i due
    exact arbitrate_updateLaw _
      (makeBuildStart_updateLaw _ freed.lists (buildDue_run _ (Bool.and_eq_true_iff.1 due).1))
  · exact arbitrate_updateLaw _ freed

/-- The return to RUN is missed only while a half of the reset is outstanding (R183). -/
theorem settleReset_updateLaw (s : State) (lists : s.update.ListLaw) (stopped : s.engine = .resetting → s.StoppedLaw) :
    (settleReset s).UpdateLaw := by
  unfold settleReset
  split
  · exact UpdateEngine.ListLaw.in_run (s := raiseApp .resetDone { s with engine := .run }) lists rfl
  · rename_i outstanding
    refine (State.updateLaw_iff s).2 ⟨lists, fun resetting => ⟨?_, stopped resetting⟩⟩
    rw [Option.isSome_iff_ne_none, Option.isSome_iff_ne_none]
    by_contra none
    obtain ⟨flight, commit⟩ := not_or.1 none
    exact outstanding ⟨resetting, not_not.1 flight, not_not.1 commit⟩

end Sys2Proof.Machine

/-! ## Lists, commits and builds keep the law of the update engine (R81 to R95, R126 to R130) -/

namespace Sys2Proof.Machine

/-! ### Endings and beginnings of lists (R83, R90) -/

theorem recordEnding_update (r : LastList) (s : State) :
    (recordEnding r s).update = { s.update with record := r, done := doneAfter s.update.done } := by
  unfold recordEnding
  dsimp only
  split <;> rfl

theorem beginList_lists (l : Submitted) (s : State) (waiting : s.update.waiting = none)
    (teardown : s.update.teardown = false) : (beginList l s).update.ListLaw := by
  have ends : ∀ r, (dropInFlight (recordEnding r s)).update.ListLaw := by
    intro r
    refine .of_empty rfl ?_ ?_
    · show (recordEnding r s).update.waiting = none
      rw [recordEnding_update, waiting]
    · show (recordEnding r s).update.teardown = false
      rw [recordEnding_update, teardown]
  unfold beginList
  split_ifs with zero misaligned
  · exact ends _
  · exact ends _
  · exact .of_flight rfl ⟨zero, by simpa using misaligned⟩

theorem endList_lists (f : InFlight) (status : ListStatus) (s : State) : (endList f status s).update.ListLaw := by
  unfold endList afterEnding
  dsimp only
  split
  · exact .of_empty rfl rfl rfl
  · split
    · rw [recordEnding_update]
      exact .of_empty rfl rfl rfl
    · exact beginList_lists _ _ rfl rfl

theorem ListFrame.engine {s t : State} (h : ListFrame s t) : t.engine = s.engine := by
  obtain ⟨u, n, rfl⟩ := h
  rfl

theorem endList_updateLaw (f : InFlight) (status : ListStatus) (s : State) (run : s.engine = .run) :
    (endList f status s).UpdateLaw :=
  (endList_lists f status s).in_run ((endList_frame f status s).engine.trans run)

/-- A submission is refused in RESETTING; in RUN the list waits behind the one in flight, or begins (R81 to R83). -/
theorem submit_updateLaw (high : Half) (s : State) (h : s.UpdateLaw) : (submit high s).UpdateLaw := by
  have frame := submit_frame high s
  unfold submit at frame ⊢
  split
  · exact h.of_course rfl
  · rename_i accepted
    have run : s.engine = .run := by
      cases e : s.engine with
      | run => rfl
      | resetting => simp [submitRefused, e] at accepted
    rw [if_neg accepted] at frame
    refine UpdateEngine.ListLaw.in_run ?_ (frame.engine.trans run)
    dsimp only
    split
    · rename_i flight
      exact ⟨fun _ => flight, fun _ => flight, h.lists.cell⟩
    · rename_i idle
      obtain ⟨waiting, teardown⟩ := h.lists.empty (by simpa using idle)
      exact beginList_lists _ _ waiting teardown

theorem updateTeardown_updateLaw (s : State) (h : s.UpdateLaw) : (updateTeardown s).UpdateLaw := by
  unfold updateTeardown
  split
  · rename_i flight
    obtain ⟨lists, reset⟩ := (State.updateLaw_iff s).1 h
    refine (State.updateLaw_iff _).2 ⟨⟨lists.waiting, fun _ => flight, lists.cell⟩, fun resetting => ?_⟩
    obtain ⟨halves, stopped⟩ := reset resetting
    exact ⟨halves, stopped.cells, stopped.build, stopped.commit, stopped.cleared⟩
  · exact h

/-! ### The list in flight (R84 to R94) -/

theorem State.cells_of_flight {s : State}
    (cells : ∀ f c, s.update.inFlight = some f → f.stage ≠ .waiting c ∧ f.stage ≠ .granted c) (c : Cell) :
    s.stage ≠ some (.waiting c) ∧ s.stage ≠ some (.granted c) := by
  refine ⟨fun stage => ?_, fun stage => ?_⟩
  · obtain ⟨f, flight, is⟩ := State.flight_of_stage stage
    exact (cells f c flight).1 is
  · obtain ⟨f, flight, is⟩ := State.flight_of_stage stage
    exact (cells f c flight).2 is

/-- Of the reset's law a list matters by its stage alone. -/
theorem State.StoppedLaw.with_update {s : State} (h : s.StoppedLaw) (u : UpdateEngine)
    (cells : ∀ f c, u.inFlight = some f → f.stage ≠ .waiting c ∧ f.stage ≠ .granted c) : (s.withUpdate u).StoppedLaw :=
  ⟨State.cells_of_flight cells, h.build, h.commit, h.cleared⟩

/-- The list in flight goes on with a legal current cell, in RESETTING with its cell fetched or applied (R85, R88, R89). -/
theorem State.UpdateLaw.goes_on {s : State} (h : s.UpdateLaw) (f : InFlight) (legal : f.cell ≠ 0 ∧ aligned f.cell = true)
    (cells : s.engine = .resetting → ∀ c, f.stage ≠ .waiting c ∧ f.stage ≠ .granted c) :
    (s.withUpdate { s.update with inFlight := some f }).UpdateLaw := by
  refine (State.updateLaw_iff _).2 ⟨.of_flight rfl legal, fun resetting => ⟨.inl rfl, ?_⟩⟩
  refine (h.stoppedLaw resetting).with_update _ fun g c flight => ?_
  cases flight
  exact cells resetting c

theorem cellBoundary_updateLaw (s : State) (h : s.UpdateLaw) : (cellBoundary s).UpdateLaw :=
  settleReset_updateLaw _ (.of_empty rfl rfl rfl) fun resetting =>
    (h.stoppedLaw resetting).with_update _ fun _ _ flight => nomatch flight

theorem EngineState.run_of_not_resetting {e : EngineState} (h : ¬ e = .resetting) : e = .run := by
  cases e with
  | run => rfl
  | resetting => exact absurd rfl h

theorem applyDrag_updateLaw (f : InFlight) (c : Cell) (s : State) (legal : f.cell ≠ 0 ∧ aligned f.cell = true)
    (run : s.engine = .run) : (applyDrag f c s).UpdateLaw := by
  rw [applyDrag_eq]
  exact UpdateEngine.ListLaw.in_run (.of_flight rfl legal) run

/-- The dispatch of a cell in RUN leaves the list in flight at its cell (R85). -/
theorem dispatch_updateLaw (f : InFlight) (c : Cell) (s : State) (h : s.UpdateLaw) (run : s.engine = .run)
    (legal : f.cell ≠ 0 ∧ aligned f.cell = true) : (dispatch f c s).UpdateLaw := by
  have goes : ∀ st, (s.withUpdate { s.update with inFlight := some { f with stage := st } }).UpdateLaw := fun st =>
    h.goes_on { f with stage := st } legal fun resetting => by cases run.symm.trans resetting
  unfold dispatch
  split_ifs
  · exact request_updateLaw _ _ (goes _)
  · exact goes _
  · exact goes _
  · exact goes _
  · exact applyDrag_updateLaw f c s legal run

theorem fetchDone_updateLaw (f : InFlight) (reply : FetchReply) (s : State) (h : s.UpdateLaw)
    (legal : f.cell ≠ 0 ∧ aligned f.cell = true) : (fetchDone f reply s).UpdateLaw := by
  unfold fetchDone
  split
  · exact cellBoundary_updateLaw s h
  · rename_i notResetting
    have run := EngineState.run_of_not_resetting notResetting
    split
    · exact endList_updateLaw f _ s run
    · split
      · exact dispatch_updateLaw _ _ s h run legal
      · exact endList_updateLaw f _ s run

theorem fetchCompletes_updateLaw (reply : FetchReply) (s : State) (h : s.UpdateLaw) :
    (fetchCompletes reply s).UpdateLaw := by
  unfold fetchCompletes
  split
  · rename_i flight
    exact fetchDone_updateLaw _ reply s h (h.lists.cell _ flight)
  · exact h

theorem beginGrantedCell_updateLaw (s : State) (h : s.UpdateLaw) : (beginGrantedCell s).UpdateLaw := by
  unfold beginGrantedCell
  split
  · rename_i list applied cell c flight
    have legal : cell ≠ 0 ∧ aligned cell = true := h.lists.cell _ flight
    exact h.goes_on ⟨list, applied, cell, .applying c⟩ legal fun _ c' => ⟨fun e => (nomatch e), fun e => (nomatch e)⟩
  · exact h

theorem cellApplies_updateLaw (s : State) (h : s.UpdateLaw) : (cellApplies s).UpdateLaw := by
  unfold cellApplies
  split
  · rename_i list applied cell c flight held
    have legal : cell ≠ 0 ∧ aligned cell = true := h.lists.cell _ flight
    have law : (putTable (s.table.applyOp c).table s).UpdateLaw := h.of_course rfl
    exact releaseGrant_updateLaw _ (law.goes_on
      ⟨list, applied, cell, .writingBack c (s.table.applyOp c).handleWord (writeBackControl c (s.table.applyOp c).result)⟩
      legal fun _ c' => ⟨fun e => (nomatch e), fun e => (nomatch e)⟩)
  · exact h

theorem boundaryAfterWrite_updateLaw (busError : Bool) (s : State) (h : s.UpdateLaw) :
    (boundaryAfterWrite busError s).UpdateLaw := by
  unfold boundaryAfterWrite
  split
  · exact cellBoundary_updateLaw _ (h.of_course rfl)
  · exact cellBoundary_updateLaw s h

/-- A cell's link ends the list, or leads it on to a legal cell (R89, R94). -/
theorem link_updateLaw (f : InFlight) (c : Cell) (s : State) (h : s.UpdateLaw) (run : s.engine = .run)
    (last : ListStatus) (st : Stage) :
    (if c.link = 0 then endList f last s
      else if aligned c.link = false then endList f .badLink s
      else s.withUpdate { s.update with inFlight := some { f with cell := c.link, stage := st } }).UpdateLaw := by
  split_ifs with zero misaligned
  · exact endList_updateLaw f _ s run
  · exact endList_updateLaw f _ s run
  · exact h.goes_on _ ⟨zero, by simpa using misaligned⟩ fun resetting => by cases run.symm.trans resetting

theorem writeBackDone_updateLaw (f : InFlight) (c : Cell) (failed : Bool) (s : State) (h : s.UpdateLaw) :
    (writeBackDone f c failed s).UpdateLaw := by
  unfold writeBackDone
  split
  · exact boundaryAfterWrite_updateLaw _ s h
  · rename_i notResetting
    have run := EngineState.run_of_not_resetting notResetting
    split_ifs
    · exact endList_updateLaw f _ s run
    · exact link_updateLaw f c s h run .tornDown .marking
    · exact link_updateLaw f c s h run .complete .fetching

theorem writeBackCompletes_updateLaw (handleError controlError : Bool) (s : State) (h : s.UpdateLaw) :
    (writeBackCompletes handleError controlError s).UpdateLaw := by
  unfold writeBackCompletes
  split
  · exact writeBackDone_updateLaw _ _ _ _ (h.of_course rfl)
  · exact h

theorem markingCompletes_updateLaw (busError : Bool) (s : State) (h : s.UpdateLaw) :
    (markingCompletes busError s).UpdateLaw := by
  have done : ∀ f u, u.UpdateLaw → (markingDone f busError u).UpdateLaw := by
    intro f u law
    unfold markingDone
    split
    · exact boundaryAfterWrite_updateLaw _ u law
    · exact endList_updateLaw f _ u (EngineState.run_of_not_resetting ‹_›)
  unfold markingCompletes
  split
  · exact done _ _ (h.of_course rfl)
  · exact h

/-! ### Commits (R126 to R130) -/

/-- A drag cell that waited for a commit makes its change, and the list stays where it stands (R87). -/
theorem applyWaitingDrag_lists (s : State) (lists : s.update.ListLaw) : (applyWaitingDrag s).update.ListLaw := by
  unfold applyWaitingDrag
  split
  · rename_i list applied cell c flight
    split
    · exact lists
    · rw [applyDrag_eq]
      have legal : cell ≠ 0 ∧ aligned cell = true := lists.cell _ flight
      exact .of_flight rfl legal
  · exact lists

theorem applyWaitingDrag_engine (s : State) : (applyWaitingDrag s).engine = s.engine := by
  unfold applyWaitingDrag
  split
  · split <;> rfl
  · rfl

/-- What a reset has brought about before the commit that runs on ends: no cell stands before its op, no build is in
flight, and the resolution's end has emptied the capture (R96, R114, R169). -/
def State.Finishing (s : State) : Prop :=
  (∀ c, s.stage ≠ some (.waiting c) ∧ s.stage ≠ some (.granted c)) ∧ s.builder.build = none ∧ s.resolver.capture = none

/-- The end of a commit makes the event of a reset that waited for it (R126, R145). -/
theorem endCommit_updateLaw (c : CommitInHand) (s : State) (lists : s.update.ListLaw)
    (finishing : s.engine = .resetting → s.Finishing) : (endCommit c s).UpdateLaw := by
  rw [endCommit_eq_releaseGrant]
  refine releaseGrant_updateLaw _ ?_
  unfold commitLeft
  dsimp only
  generalize pressed : handlePress c (s.withTool { s.tool with commit := none }) = u
  have update : u.update = s.update := by rw [← pressed, handlePress_eq]; rfl
  have engine : u.engine = s.engine := by rw [← pressed, handlePress_eq]; rfl
  have moved : (applyWaitingDrag u).update.ListLaw := applyWaitingDrag_lists u (by rw [update]; exact lists)
  split
  · rename_i resetting
    rw [applyWaitingDrag_engine, engine] at resetting
    obtain ⟨cells, build, capture⟩ := finishing resetting
    have still : applyWaitingDrag u = u := applyWaitingDrag_none u (by rw [update]; exact fun c => (cells c).1)
    rw [still] at moved ⊢
    refine settleReset_updateLaw (toolResetEvent u) moved fun _ => ?_
    refine ⟨?_, ?_, ?_, fun _ => ⟨rfl, rfl, rfl, ?_⟩⟩
    · show ∀ c, u.stage ≠ _ ∧ u.stage ≠ _
      rw [State.stage, update]
      exact cells
    · rw [← pressed, handlePress_eq]
      exact build
    · intro c commit
      rw [← pressed, handlePress_eq] at commit
      cases commit
    · rw [← pressed, handlePress_eq]
      exact capture
  · rename_i notResetting
    exact settleReset_updateLaw _ moved fun resetting => absurd resetting notResetting

/-- A commit that has passed the refusal tests, in RUN (R130 to R136). -/
theorem commitAccepted_updateLaw (c : CommitInHand) (s : State) (lists : s.update.ListLaw) (run : s.engine = .run) :
    (commitAccepted c s).UpdateLaw := by
  have ends : ∀ u : State, u.update = s.update → u.engine = s.engine → (endCommit c u).UpdateLaw := fun u update engine =>
    endCommit_updateLaw c u (by rw [update]; exact lists) fun resetting => by
      cases (engine.trans run).symm.trans resetting
  have point : (commitPoint c s).UpdateLaw := by
    unfold commitPoint
    split
    · refine ends _ ?_ ?_
      · rw [appendRecord_eq, emptyCapture_eq]
      · rw [appendRecord_eq, emptyCapture_eq]
    · exact UpdateEngine.ListLaw.in_run (s := commitResolution c _ s) lists run
  unfold commitAccepted
  split
  · exact ends _ rfl rfl
  · exact ends _ rfl rfl
  · exact point
  · exact point

theorem beginCommit_updateLaw (c : CommitInHand) (s : State) (lists : s.update.ListLaw) (run : s.engine = .run) :
    (beginCommit c s).UpdateLaw := by
  unfold beginCommit
  dsimp only
  generalize applied : (if s.applyPending then takeApply s else s) = u
  have update : u.update = s.update := by
    rw [← applied]
    split
    · exact takeApply_update s
    · rfl
  have engine : u.engine = .run := by
    rw [← applied]
    split
    · exact (takeApply_engine s).trans run
    · exact run
  rw [← update] at lists
  split
  · exact endCommit_updateLaw c _ lists fun resetting => by cases engine.symm.trans resetting
  · exact commitAccepted_updateLaw c u lists engine

/-- The commit under its grant begins in RUN alone: in RESETTING it has begun already (R127, R145). -/
theorem beginGrantedCommit_updateLaw (s : State) (h : s.UpdateLaw) : (beginGrantedCommit s).UpdateLaw := by
  unfold beginGrantedCommit
  split
  · rename_i entry button queued commit
    refine beginCommit_updateLaw _ s h.lists (EngineState.run_of_not_resetting fun resetting => ?_)
    obtain ⟨resolving, -⟩ := (h.stoppedLaw resetting).commit _ commit
    cases resolving
  · exact h

theorem tryCommitStart_updateLaw (s : State) (h : s.UpdateLaw) : (tryCommitStart s).UpdateLaw := by
  unfold tryCommitStart
  split
  · rename_i run _ _
    split
    · exact request_updateLaw _ _ (UpdateEngine.ListLaw.in_run (s := s.withTool _) h.lists run)
    · exact h
  · exact h

/-! ### Builds and resolutions (R120, R152, R163) -/

/-- A change of the build in flight, which no reset leaves (R169). -/
theorem State.UpdateLaw.with_build {s t : State} (h : s.UpdateLaw) {b : Build} (build : s.builder.build = some b)
    (update : t.update = s.update) (engine : t.engine = s.engine) : t.UpdateLaw := by
  have run : s.engine = .run := EngineState.run_of_not_resetting fun resetting => by
    cases build.symm.trans (h.stoppedLaw resetting).build
  exact UpdateEngine.ListLaw.in_run (by rw [update]; exact h.lists) (engine.trans run)

theorem beginBuildResolution_updateLaw (s : State) (h : s.UpdateLaw) : (beginBuildResolution s).UpdateLaw := by
  unfold beginBuildResolution
  split
  · rename_i build
    exact h.with_build build rfl rfl
  · exact h

theorem completeBuild_updateLaw (s : State) (h : s.UpdateLaw) : (completeBuild s).UpdateLaw := by
  obtain ⟨b, n, frame⟩ := completeBuild_frame s
  cases build : s.builder.build with
  | none =>
    have same : completeBuild s = s := by simp [completeBuild, build]
    rw [same]
    exact h
  | some _ =>
    refine h.with_build build ?_ ?_
    · rw [frame]
    · rw [frame]

theorem endBuildResolution_updateLaw (r : Resolution) (s : State) (h : s.UpdateLaw) {b : Build}
    (build : s.builder.build = some b) : (endBuildResolution r (endResolution r s)).UpdateLaw := by
  unfold endBuildResolution
  split
  · exact releaseGrant_updateLaw _ (h.with_build build rfl rfl)
  · exact h.with_build build rfl rfl

/-- A commit's resolution ends the commit, in a state that has the lists and the build as before; in a reset the emptying
that waited has been made (R114, R130). -/
theorem finishCommit_ends (c : CommitInHand) (r : Resolution) (s : State)
    (button : c.button = .place ∨ c.button = .aux) :
    ∃ u : State, finishCommit c r (endResolution r s) = endCommit c u ∧ u.update = s.update ∧ u.engine = s.engine ∧
      (s.StoppedLaw → s.resolver.emptying = true → u.Finishing) := by
  obtain ⟨u, ends, update, engine, build, resolver⟩ : ∃ u, finishCommit c r (endResolution r s) = endCommit c u ∧
      u.update = s.update ∧ u.engine = s.engine ∧ u.builder.build = s.builder.build ∧
        u.resolver = (endResolution r s).resolver := by
    rcases button with place | aux
    · have placed : finishCommit c r (endResolution r s) = finishPlace c r (endResolution r s) := by
        rw [finishCommit, place]
      exact ⟨_, placed, rfl, rfl, rfl, rfl⟩
    · have taken : finishCommit c r (endResolution r s) = finishAux c r (endResolution r s) := by
        rw [finishCommit, aux]
      exact ⟨_, taken, rfl, rfl, rfl, rfl⟩
  refine ⟨u, ends, update, engine, fun stopped emptying => ⟨?_, build.trans stopped.build, ?_⟩⟩
  · rw [State.stage, update]
    exact stopped.cells
  · rw [resolver, endResolution_eq]
    exact if_pos emptying

theorem finishCommit_updateLaw (c : CommitInHand) (r : Resolution) (s : State) (h : s.UpdateLaw)
    (commit : s.tool.commit = some c) (button : c.button = .place ∨ c.button = .aux) :
    (finishCommit c r (endResolution r s)).UpdateLaw := by
  obtain ⟨u, ends, update, engine, finishing⟩ := finishCommit_ends c r s button
  rw [ends]
  refine endCommit_updateLaw c u (by rw [update]; exact h.lists) fun resetting => ?_
  have stopped := h.stoppedLaw (engine.symm.trans resetting)
  obtain ⟨-, -, emptying⟩ := stopped.commit c commit
  exact finishing stopped emptying

/-- The resolution that ends is that of the commit or of the build at work (R99, R120). -/
theorem resolutionEnds_cases (s : State) (grants : s.GrantLaw) :
    (s.resolver.resolution = none ∧ resolutionEnds s = s) ∨
      (∃ r c, s.tool.commit = some c ∧ c.resolving = true ∧ (c.button = .place ∨ c.button = .aux) ∧
        resolutionEnds s = finishCommit c r (endResolution r s)) ∨
      ∃ r b, s.builder.build = some b ∧ resolutionEnds s = endBuildResolution r (endResolution r s) := by
  cases resolution : s.resolver.resolution with
  | none => exact .inl ⟨rfl, by simp [resolutionEnds, resolution]⟩
  | some inputs =>
    have at_work := grants.resolution
    rw [resolution, Option.isSome_some, eq_comm, Bool.or_eq_true] at at_work
    refine .inr (at_work.imp (fun begun => ?_) fun begun => ?_)
    · have held : s.arbiter.holder = some .commit := grants.begun _ begun
      unfold State.begun at begun
      cases commit : s.tool.commit with
      | none => simp [commit] at begun
      | some c =>
        obtain ⟨entry, button, queued, resolving⟩ := c
        simp only [commit, Option.map_some, Option.getD_some] at begun
        subst begun
        exact ⟨resolve inputs s.table, _, rfl, rfl, grants.buttons _ commit rfl,
          by simp [resolutionEnds, resolution, held, endCommitResolution, commit]⟩
    · have held : s.arbiter.holder = some .build := grants.begun _ begun
      unfold State.begun at begun
      cases build : s.builder.build with
      | none => simp [build] at begun
      | some b => exact ⟨resolve inputs s.table, b, rfl, by simp [resolutionEnds, resolution, held]⟩

theorem resolutionEnds_updateLaw (s : State) (grants : s.GrantLaw) (h : s.UpdateLaw) : (resolutionEnds s).UpdateLaw := by
  rcases resolutionEnds_cases s grants with ⟨-, e⟩ | ⟨r, c, commit, -, button, e⟩ | ⟨r, b, build, e⟩
  · rw [e]
    exact h
  · rw [e]
    exact finishCommit_updateLaw c r s h commit button
  · rw [e]
    exact endBuildResolution_updateLaw r s h build

theorem tableGrant_updateLaw (s : State) (grants : s.GrantLaw) (h : s.UpdateLaw) : (tableGrant s).UpdateLaw := by
  unfold tableGrant
  rw [grants.arbitrate_eq]
  dsimp only
  split
  · exact beginGrantedCommit_updateLaw s h
  · exact beginBuildResolution_updateLaw s h
  · exact beginGrantedCell_updateLaw s h
  all_goals exact h

end Sys2Proof.Machine

/-! ## ENGINE_RESET and every step keep the law of the update engine (R96, R145, R169, R177 to R183, R190) -/

namespace Sys2Proof.Machine

/-! ### ENGINE_RESET, block by block -/

theorem resetTool_update (s : State) : (resetTool s).update = s.update := by
  unfold resetTool
  split <;> rfl

/-- A commit that runs on leaves the queue; otherwise none is left and the event is made (R145). -/
theorem resetTool_tool (s : State) :
    (∃ c, (resetTool s).tool.commit = some c ∧ c.resolving = true ∧ c.queued = false) ∨
      (resetTool s).tool.commit = none ∧ (resetTool s).tool.context = ToolContext.empty ∧
        (resetTool s).tool.drag = Drag.empty ∧ (resetTool s).tool.log = [] := by
  unfold resetTool
  split
  · exact .inl ⟨_, rfl, rfl, rfl⟩
  · exact .inr ⟨rfl, rfl, rfl, rfl⟩
  · rename_i noCommit
    exact .inr ⟨noCommit, rfl, rfl, rfl⟩

theorem resetBuilder_update (s : State) : (resetBuilder s).update = s.update := by
  unfold resetBuilder
  dsimp only
  split <;> rfl

theorem resetBuilder_tool (s : State) : (resetBuilder s).tool = s.tool := by
  unfold resetBuilder
  dsimp only
  split <;> rfl

theorem resetBuilder_build (s : State) : (resetBuilder s).builder.build = none := by
  unfold resetBuilder
  rfl

/-- With no build in flight a resolution is the commit's (R99). -/
theorem Access.ResolverLaw.of_no_build {a : Access} (h : a.ResolverLaw) (build : a.phase = none) :
    a.resolving = a.begun .commit := by
  rw [h.resolution, show a.begun .build = false by simp [Access.begun, build], Bool.or_false]

/-- Once the blocks have made their reset effects and the capture is emptied, only the lists are left to be stopped
(R114, R145, R169). -/
theorem emptyCapture_stopped (s : State) (own : s.access.OwnLaw) (build : s.builder.build = none)
    (tool : (∃ c, s.tool.commit = some c ∧ c.resolving = true ∧ c.queued = false) ∨
      s.tool.commit = none ∧ s.tool.context = ToolContext.empty ∧ s.tool.drag = Drag.empty ∧ s.tool.log = [])
    (u : UpdateEngine) (cells : ∀ f c, u.inFlight = some f → f.stage ≠ .waiting c ∧ f.stage ≠ .granted c) :
    ((emptyCapture s).withUpdate u).StoppedLaw := by
  have resolution : s.resolver.resolution.isSome = s.access.begun .commit :=
    own.resolver.of_no_build (by simp [State.access, build])
  rw [emptyCapture_eq]
  refine ⟨State.cells_of_flight cells, build, fun c commit => ?_, fun noCommit => ?_⟩
  · have commit : s.tool.commit = some c := commit
    rcases tool with ⟨c', commit', resolving, queued⟩ | ⟨noCommit, -⟩
    · obtain rfl : c = c' := Option.some.inj (commit.symm.trans commit')
      refine ⟨resolving, queued, ?_⟩
      show (s.resolver.emptying || s.resolver.resolution.isSome) = true
      rw [resolution]
      simp [Access.begun, State.access, commit, resolving]
    · cases noCommit.symm.trans commit
  · have noCommit : s.tool.commit = none := noCommit
    rcases tool with ⟨c, commit, -⟩ | ⟨-, context, drag, log⟩
    · cases noCommit.symm.trans commit
    · refine ⟨context, drag, log, if_pos ?_⟩
      rw [← Option.not_isSome_iff_eq_none, resolution]
      simp [Access.begun, State.access, noCommit]

/-- ENGINE_RESET drops the lists, or leaves one whose cell is fetched, applied, written back or marked (R96). -/
theorem resetUpdate_stops (s : State) (lists : s.update.ListLaw) :
    (resetUpdate s).update.ListLaw ∧ (resetUpdate s).course = (s.withUpdate (resetUpdate s).update).course ∧
      ∀ f c, (resetUpdate s).update.inFlight = some f → f.stage ≠ .waiting c ∧ f.stage ≠ .granted c := by
  rcases resetUpdate_cases s with ⟨-, e⟩ | ⟨later, e⟩
  · rw [e]
    exact ⟨.of_empty rfl rfl rfl, rfl, fun f c flight => (nomatch flight)⟩
  · rw [e]
    refine ⟨lists, rfl, fun f c flight => ?_⟩
    obtain ⟨list, applied, cell, stage⟩ := f
    rw [flight] at later
    refine ⟨fun waiting => ?_, fun granted => ?_⟩
    · cases waiting
      cases later
    · cases granted
      cases later

theorem State.withUpdate_course {s t : State} (same : t.course = s.course) (u : UpdateEngine) :
    (t.withUpdate u).course = (s.withUpdate u).course := by
  show { t.course with inFlight := u.inFlight, waiting := u.waiting, teardown := u.teardown } = _
  rw [same]
  rfl

/-- ENGINE_RESET taken in RUN stops every block, and settles at once when no half is outstanding (R183). -/
theorem resetEngine_updateLaw (s : State) (grants : s.GrantLaw) (h : s.UpdateLaw) : (resetEngine s).UpdateLaw := by
  unfold resetEngine
  dsimp only
  refine arbitrate_updateLaw _ ?_
  generalize cleared : resetLink { s with
    appNotices := s.appNotices.clear (BitVec.allOnes 14), engine := .resetting } = u
  obtain ⟨l, n, r, linked⟩ := resetLink_frame { s with
    appNotices := s.appNotices.clear (BitVec.allOnes 14), engine := .resetting }
  rw [cleared] at linked
  have own : u.access.OwnLaw := by
    rw [linked]
    exact ((State.grantLaw_iff s).1 grants).1
  have update : (resetBuilder (resetTool u)).update = s.update := by
    rw [resetBuilder_update, resetTool_update, linked]
  have tool := resetTool_tool u
  rw [← resetBuilder_tool (resetTool u)] at tool
  have stopped := emptyCapture_stopped _ (resetBuilder_ownLaw _ (resetTool_ownLaw u own)) (resetBuilder_build _) tool
  have emptied : (emptyCapture (resetBuilder (resetTool u))).update = s.update := by
    rw [emptyCapture_eq]
    exact update
  have aborted : (abortPick .pick1 (abortPick .pick0 (emptyCapture (resetBuilder (resetTool u))))).course =
      (emptyCapture (resetBuilder (resetTool u))).course := by
    rw [abortPick_course, abortPick_course]
  generalize abortPick .pick1 (abortPick .pick0 (emptyCapture (resetBuilder (resetTool u)))) = v at aborted ⊢
  have lists : v.update.ListLaw := h.lists.congr
    ((congrArg Course.inFlight aborted).trans (congrArg UpdateEngine.inFlight emptied))
    ((congrArg Course.waiting aborted).trans (congrArg UpdateEngine.waiting emptied))
    ((congrArg Course.teardown aborted).trans (congrArg UpdateEngine.teardown emptied))
  obtain ⟨lists, dropped, cells⟩ := resetUpdate_stops v lists
  exact settleReset_updateLaw _ lists fun _ =>
    (stopped _ cells).of_course (dropped.trans (State.withUpdate_course aborted _))

/-! ### Picks, ports, commands and the step -/

theorem engineReset_updateLaw (s : State) (grants : s.GrantLaw) (h : s.UpdateLaw) : (engineReset s).UpdateLaw := by
  unfold engineReset
  split
  · exact resetEngine_updateLaw s grants h
  · exact h

theorem writePick_updateLaw (i : PickId) (input : PickInput) (v : Word) (s : State) (h : s.UpdateLaw) :
    (writePick i input v s).UpdateLaw := by
  have slot : ∀ p, (s.withPick i p).UpdateLaw := fun p => h.of_course (withPick_course i p s)
  unfold writePick startPick
  dsimp only
  split_ifs
  · exact slot _
  · exact request_updateLaw _ _ (slot _)
  · exact h
  · exact slot _

theorem pickCompletes_updateLaw (s : State) (h : s.UpdateLaw) : (pickCompletes s).UpdateLaw := by
  have completes : ∀ i, (completePick i s).UpdateLaw := fun i =>
    releaseGrant_updateLaw _ (h.of_course ((raisePickDone_course i _).trans (withPick_course i _ s)))
  unfold pickCompletes
  split
  · split
    · exact completes .pick0
    · exact h
  · split
    · exact completes .pick1
    · exact h
  all_goals exact h

theorem State.StoppedLaw.commitPop {s : State} (h : s.StoppedLaw) : (commitPop s).StoppedLaw := by
  refine ⟨h.cells, h.build, h.commit, fun noCommit => ?_⟩
  obtain ⟨context, drag, log, capture⟩ := h.cleared noCommit
  refine ⟨context, drag, ?_, capture⟩
  show s.tool.log.drop 1 = []
  rw [log]
  rfl

theorem commitPop_updateLaw (s : State) (h : s.UpdateLaw) : (commitPop s).UpdateLaw := by
  obtain ⟨lists, reset⟩ := (State.updateLaw_iff s).1 h
  exact (State.updateLaw_iff _).2 ⟨lists, fun resetting => ⟨(reset resetting).1, (reset resetting).2.commitPop⟩⟩

theorem command_updateLaw (code : Half) (s : State) (grants : s.GrantLaw) (h : s.UpdateLaw) :
    (command code s).UpdateLaw := by
  unfold command
  split
  · exact engineReset_updateLaw s grants h
  · exact h.of_course (linkRestart_frame s).course
  · exact h.of_course rfl
  · exact updateTeardown_updateLaw s h
  · exact h.of_course rfl
  · exact commitPop_updateLaw s h
  · exact h

/-- A DATA write of the application window keeps the law at every location (R181, R195). -/
theorem writeApp_updateLaw (loc : Nat) (v : Word) (s : State) (grants : s.GrantLaw) (h : s.UpdateLaw) :
    (writeApp loc v s).UpdateLaw := by
  unfold writeApp
  split_ifs
  · exact command_updateLaw _ s grants h
  · exact h.of_course (clearNotices_course _ _ s)
  · exact h.of_course (enableNotices_course _ _ s)
  · exact h.of_course (disableNotices_course _ _ s)
  · exact h.of_course rfl
  · exact submit_updateLaw _ s h
  · exact commitPop_updateLaw s h
  · split
    · exact writePick_updateLaw _ _ _ s h
    · exact h
  · exact h.of_course (staged_course _ s)
  · exact h

/-- A DATA write of the display window keeps the law at every location (R181, R196). -/
theorem writeDisp_updateLaw (loc : Nat) (v : Word) (s : State) (h : s.UpdateLaw) : (writeDisp loc v s).UpdateLaw := by
  unfold writeDisp
  split_ifs
  · exact h.of_course (clearNotices_course _ _ s)
  · exact h.of_course (enableNotices_course _ _ s)
  · exact h.of_course (disableNotices_course _ _ s)
  · exact h.of_course (frameStart_course s)
  · exact h.of_course rfl
  · split
    · exact h.of_course rfl
    · exact h
  · split
    · exact writePick_updateLaw _ _ _ s h
    · exact h
  · exact h

theorem State.UpdateLaw.accessed {s : State} (h : s.UpdateLaw) (port : PortId) (loc : Nat) :
    (accessed port loc s).UpdateLaw :=
  h.of_course (accessed_course port loc s)

/-- A row of a location whose effect leaves the course of lists, commit and reset (log 5). -/
theorem State.UpdateLaw.accessed_of {s t : State} (h : s.UpdateLaw) (port : PortId) (loc : Nat)
    (same : t.course = s.course) : (Machine.accessed port loc t).UpdateLaw :=
  (h.of_course same).accessed port loc

theorem portWrite_updateLaw (port : PortId) (address : PortAddr) (v : Word) (s : State) (grants : s.GrantLaw)
    (h : s.UpdateLaw) : (portWrite port address v s).UpdateLaw := by
  cases port <;> cases address
  case app.index => exact h.of_course rfl
  case disp.index => exact h.of_course rfl
  case app.data => exact (writeApp_updateLaw _ v s grants h).accessed _ _
  case disp.data => exact (writeDisp_updateLaw _ v s h).accessed _ _

theorem writePickAt_updateLaw (i : PickId) (input : PickInput) (v : Word) (s : State) (h : s.UpdateLaw) :
    (writePickAt i input v s).UpdateLaw := by
  unfold writePickAt
  split
  · exact h
  · cases i
    case pick0 => exact (writePick_updateLaw _ _ _ s h).accessed _ _
    case pick1 => exact (writePick_updateLaw _ _ _ s h).accessed _ _

theorem powerOn_updateLaw (s : State) : State.UpdateLaw { State.reset with pending := s.pending } :=
  UpdateEngine.ListLaw.in_run (.of_empty rfl rfl rfl) rfl

/-- Every command keeps the law of the update engine, with the arbiter's law before it. -/
theorem exec_updateLaw (c : Instr) (s t : State) (grants : s.GrantLaw) (h : s.UpdateLaw) (run : exec c s = .next t) :
    t.UpdateLaw := by
  cases c <;> cases run
  case powerOn => exact powerOn_updateLaw s
  case byteArrival time sound byte => exact h.of_course (takeByte_frame time sound byte s).course
  case gapExpiry time => exact h.of_course (gapExpires_frame time s).course
  case presenceExpiry time device => exact h.of_course (presenceExpires_frame time device s).course
  case engineReset => exact (engineReset_updateLaw s grants h).accessed _ _
  case linkRestart => exact h.accessed_of _ _ (linkRestart_frame s).course
  case apply => exact h.accessed_of _ _ rfl
  case updateTeardown => exact (updateTeardown_updateLaw s h).accessed _ _
  case updateAck => exact h.accessed_of _ _ rfl
  case commitPop => exact (commitPop_updateLaw s h).accessed _ _
  case submitHi value => exact (submit_updateLaw value s h).accessed _ _
  case fetchCompletion reply => exact fetchCompletes_updateLaw reply s h
  case tableGrant => exact tableGrant_updateLaw s grants h
  case cellApplication => exact cellApplies_updateLaw s h
  case writeBackCompletion handleError controlError => exact writeBackCompletes_updateLaw handleError controlError s h
  case markingCompletion busError => exact markingCompletes_updateLaw busError s h
  case commitStart => exact tryCommitStart_updateLaw s h
  case resolutionEnd => exact resolutionEnds_updateLaw s grants h
  case buildStart => exact tryBuildStart_updateLaw s h
  case buildCompletion => exact completeBuild_updateLaw s h
  case frameStart => exact h.accessed_of _ _ (frameStart_course s)
  case stream => exact h.accessed_of _ _ (readStream_course s)
  case streamRewind => exact h.accessed_of _ _ rfl
  case stagedViewWrite field value => exact h.accessed_of _ _ rfl
  case pickGo slot => exact writePickAt_updateLaw slot .go 1 s h
  case pickBlockedWrite slot input value => exact writePickAt_updateLaw slot input value s h
  case pickCompletion => exact pickCompletes_updateLaw s h
  case noticeRaw port value => exact h.accessed_of _ _ (clearNotices_course port value s)
  case enableSet port value => exact h.accessed_of _ _ (enableNotices_course port value s)
  case enableClear port value => exact h.accessed_of _ _ (disableNotices_course port value s)
  case dataRead port address => exact h.of_course (portRead_course port address s)
  case registerWrite port address value => exact portWrite_updateLaw port address value s grants h

end Sys2Proof.Machine

namespace Sys2Proof.Claims

open Sys2Proof.Machine

/-- Settles O6: in RUN the law is that of the lists alone, and in RESETTING a command makes an awaited completion or leaves
lists, commit and capture as the reset left them. -/
theorem everyStepKeepsTheUpdateLaw : Obligations.EveryStepKeepsTheUpdateLaw := by
  intro s t grants h run
  unfold step at run
  split at run
  · cases run
    exact h
  · rename_i c rest _
    exact exec_updateLaw c { s with pending := rest } t (grants.of_access rfl) (h.of_course rfl) run

end Sys2Proof.Claims

/-! ## What the operations of the update engine do (R81 to R96) -/

namespace Sys2Proof.Machine

open Sys2Proof.Claims

/-! ### Addresses, EO and the done count -/

theorem aligned_eq (address : Word) : aligned address = decide (address.toNat % 32 = 0) := by
  unfold aligned
  rw [Bool.eq_iff_iff, beq_iff_eq, ← BitVec.toNat_inj, decide_eq_true_iff, BitVec.extractLsb'_toNat]
  simp

theorem Cell.eo_eq (c : Cell) : c.eo = decide (2 ^ 31 ≤ c.control.toNat) :=
  BitVec.msb_eq_decide c.control

theorem doneBy_toNat (n : Nat) (done : BitVec 8) : (doneBy n done).toNat = min 255 (done.toNat + n) := by
  unfold doneBy
  rw [BitVec.toNat_ofNat]
  omega

theorem doneAfter_eq (done : BitVec 8) : doneAfter done = doneBy 1 done := by
  apply BitVec.eq_of_toNat_eq
  rw [doneBy_toNat]
  unfold doneAfter
  split
  · rename_i full
    rw [full]
    rfl
  · rename_i room
    have : done.toNat ≠ 255 := fun full => room (BitVec.eq_of_toNat_eq full)
    rw [BitVec.toNat_add]
    change (done.toNat + 1) % 256 = _
    omega

/-- Two endings, one after the other (R90). -/
theorem doneBy_doneBy (done : BitVec 8) : doneBy 1 (doneBy 1 done) = doneBy 2 done := by
  apply BitVec.eq_of_toNat_eq
  rw [doneBy_toNat, doneBy_toNat, doneBy_toNat]
  omega

/-! ### Notices -/

theorem raiseApp_eq_raised (n : AppNotice) (s : State) :
    raiseApp n s = { s with appNotices := raised s.appNotices [(true, n)] } := by
  simp [raiseApp, raised, noticeBits_cons, NoticeUnit.raise]

theorem raiseApp_if (b : Bool) (n : AppNotice) (s : State) :
    (if b then raiseApp n s else s) = { s with appNotices := raised s.appNotices [(b, n)] } := by
  cases b
  · simp
  · rw [if_pos rfl, raiseApp_eq_raised]

/-! ### Endings and beginnings of lists (R83, R90) -/

theorem recordEnding_eq (r : LastList) (s : State) :
    recordEnding r s =
      { s with
        appNotices := raised s.appNotices [(r.status == .busError, .busError)]
        update := { s.update with record := r, done := doneBy 1 s.update.done } } := by
  unfold recordEnding
  dsimp only
  rw [doneAfter_eq]
  cases busError : r.status == .busError
  · rw [if_neg (by simpa using busError), raised_false_cons, raised_nil]
    rfl
  · rw [if_pos (by simpa using busError), raiseApp_eq_raised]
    rfl

/-- An ending without a bus error raises nothing (R90). -/
theorem recordEnding_silent (r : LastList) (s : State) (noError : r.status ≠ .busError) :
    recordEnding r s = { s with update := { s.update with record := r, done := doneBy 1 s.update.done } } := by
  rw [recordEnding_eq, beq_eq_false_iff_ne.2 noError, raised_false_cons, raised_nil]

theorem beginList_zero (l : Submitted) (s : State) (zero : l.head = 0) :
    beginList l s = { s with update := { s.update with
      inFlight := none, done := doneBy 1 s.update.done, record := ⟨l, .complete, 0, 0⟩ } } := by
  rw [beginList, if_pos zero, recordEnding_silent _ _ (by simp)]
  rfl

theorem beginList_misaligned (l : Submitted) (s : State) (misaligned : l.head.toNat % 32 ≠ 0) :
    beginList l s = { s with update := { s.update with
      inFlight := none, done := doneBy 1 s.update.done, record := ⟨l, .badLink, 0, 0⟩ } } := by
  have nonzero : l.head ≠ 0 := fun zero => misaligned (by rw [zero]; rfl)
  rw [beginList, if_neg nonzero, if_pos (by simpa [aligned_eq] using misaligned),
    recordEnding_silent _ _ (by simp)]
  rfl

theorem beginList_legal (l : Submitted) (s : State) (nonzero : l.head ≠ 0) (legal : l.head.toNat % 32 = 0) :
    beginList l s = { s with update := { s.update with inFlight := some ⟨l, 0, l.head, .fetching⟩ } } := by
  rw [beginList, if_neg nonzero, if_neg (by simpa [aligned_eq] using legal)]
  rfl

/-- The ending of the list in flight, as one event (R82, R90, R94). -/
theorem endList_eq (f : InFlight) (status : ListStatus) (s : State) : endList f status s = ended f status s := by
  unfold endList afterEnding ended engineAfterEnding
  dsimp only
  rw [recordEnding_eq]
  cases s.update.waiting with
  | none => rfl
  | some l =>
    dsimp only
    split_ifs with teardown zero misaligned
    · rw [recordEnding_silent _ _ (by simp)]
      simp [State.withUpdate, doneBy_doneBy]
    · rw [beginList_zero l _ zero]
      simp [State.withUpdate, doneBy_doneBy]
    · rw [beginList_misaligned l _ misaligned]
      simp [State.withUpdate, doneBy_doneBy]
    · rw [beginList_legal l _ zero (not_not.1 misaligned)]
      rfl

/-! ### The cell boundary of a reset (R96, R183) -/

theorem cellBoundary_eq (s : State) (resetting : s.engine = .resetting) : cellBoundary s = atBoundary false s := by
  unfold cellBoundary settleReset atBoundary
  by_cases commit : s.tool.commit = none
  · rw [if_pos ⟨resetting, rfl, commit⟩, raiseApp_eq_raised]
    simp [commit, State.withUpdate, LastList.cleared]
  · rw [if_neg fun settled => commit settled.2.2]
    have some_commit : s.tool.commit.isNone = false := by simpa [← Option.isSome_iff_ne_none] using commit
    simp [commit, some_commit, State.withUpdate, LastList.cleared, ← resetting]

theorem boundaryAfterWrite_eq (busError : Bool) (s : State) (resetting : s.engine = .resetting) :
    boundaryAfterWrite busError s = atBoundary busError s := by
  unfold boundaryAfterWrite
  rw [raiseApp_if]
  refine (cellBoundary_eq { s with appNotices := raised s.appNotices [(busError, .busError)] } resetting).trans ?_
  simp [atBoundary, raised_raised]

/-! ### Completions by the stage that awaits them (log 3) -/

theorem fetchCompletes_fetching (reply : FetchReply) (s : State) (f : InFlight) (flight : s.update.inFlight = some f)
    (stage : f.stage = .fetching) : fetchCompletes reply s = fetchDone f reply s := by
  obtain ⟨list, applied, cell, st⟩ := f
  cases stage
  simp only [fetchCompletes, flight]

theorem fetchCompletes_other (reply : FetchReply) (s : State)
    (other : ∀ f, s.update.inFlight = some f → f.stage ≠ .fetching) : fetchCompletes reply s = s := by
  unfold fetchCompletes
  split
  · rename_i flight
    exact absurd rfl (other _ flight)
  · rfl

theorem writeBackCompletes_writingBack (handleError controlError : Bool) (s : State) (f : InFlight) (c : Cell)
    (handle : Option Word) (control : Word) (flight : s.update.inFlight = some f)
    (stage : f.stage = .writingBack c handle control) :
    writeBackCompletes handleError controlError s =
      writeBackDone f c (writeBackFailed handle handleError controlError)
        { s with masterWrites := writeBackWrites f.cell handle control handleError controlError } := by
  obtain ⟨list, applied, cell, st⟩ := f
  cases stage
  simp only [writeBackCompletes, flight]
  rfl

theorem writeBackCompletes_other (handleError controlError : Bool) (s : State)
    (other : ∀ f c h w, s.update.inFlight = some f → f.stage ≠ .writingBack c h w) :
    writeBackCompletes handleError controlError s = s := by
  unfold writeBackCompletes
  split
  · rename_i flight
    exact absurd rfl (other _ _ _ _ flight)
  · rfl

theorem markingCompletes_marking (busError : Bool) (s : State) (f : InFlight) (flight : s.update.inFlight = some f)
    (stage : f.stage = .marking) :
    markingCompletes busError s = markingDone f busError { s with masterWrites := markingWrites f.cell busError } := by
  obtain ⟨list, applied, cell, st⟩ := f
  cases stage
  simp only [markingCompletes, flight]
  rfl

theorem markingCompletes_other (busError : Bool) (s : State)
    (other : ∀ f, s.update.inFlight = some f → f.stage ≠ .marking) : markingCompletes busError s = s := by
  unfold markingCompletes
  split
  · rename_i flight
    exact absurd rfl (other _ flight)
  · rfl

/-! ### Fetch completion (R84, R85, R95) -/

theorem fetchDone_resetting (f : InFlight) (reply : FetchReply) (s : State) (resetting : s.engine = .resetting) :
    fetchDone f reply s = atBoundary false s := by
  unfold fetchDone
  rw [if_pos resetting, cellBoundary_eq s resetting]

theorem fetchDone_busError (f : InFlight) (s : State) (run : s.engine = .run) :
    fetchDone f .busError s = ended f .busError s := by
  unfold fetchDone
  rw [if_neg (by simp [run]), endList_eq]

/-- A cell with EO clear ends the list; one with EO set is counted and dispatched (R85, R95). -/
theorem fetchDone_cell (f : InFlight) (c : Cell) (s : State) (run : s.engine = .run) :
    fetchDone f (.cell c) s =
      if 2 ^ 31 ≤ c.control.toNat then dispatch { f with applied := f.applied + 1 } c s
      else ended f .stoppedUnowned s := by
  unfold fetchDone
  rw [if_neg (by simp [run])]
  simp only [Cell.eo_eq, decide_eq_true_eq, endList_eq]

/-! ### Write-back and marking (R88, R89, R94) -/

/-- A handle word that is not written, or is written without a bus error, lets the write-back go on (R88). -/
theorem writeBackWrites_handle (cell : Word) (handle : Option Word) (control : Word) (handleError controlError : Bool)
    (handled : handle = none ∨ handleError = false) :
    writeBackWrites cell handle control handleError controlError =
      (handle.map fun v => (cell + 28, v)).toList ++ if controlError then [] else [(cell + 4, control)] := by
  rcases handled with rfl | rfl
  · rfl
  · cases handle <;> rfl

theorem writeBackFailed_handle (handle : Option Word) (handleError controlError : Bool)
    (handled : handle = none ∨ handleError = false) :
    writeBackFailed handle handleError controlError = controlError := by
  rcases handled with rfl | rfl
  · rfl
  · simp [writeBackFailed]

/-- Where the link of a cell leads: to the end of the list, or to a cell that is fetched or marked (R89, R94). -/
def linked (f : InFlight) (c : Cell) (last : ListStatus) (st : Stage) (s : State) : State :=
  if c.link = 0 then ended f last s
  else if c.link.toNat % 32 ≠ 0 then ended f .badLink s
  else atStage { f with cell := c.link } st s

theorem followLink_eq (f : InFlight) (c : Cell) (s : State) : followLink f c s = linked f c .complete .fetching s := by
  simp only [followLink, linked, aligned_eq, endList_eq, decide_eq_false_iff_not, ne_eq]
  rfl

theorem tearDown_eq (f : InFlight) (c : Cell) (s : State) : tearDown f c s = linked f c .tornDown .marking s := by
  simp only [tearDown, linked, aligned_eq, endList_eq, decide_eq_false_iff_not, ne_eq]
  rfl

theorem writeBackDone_failed (f : InFlight) (c : Cell) (s : State) (run : s.engine = .run) :
    writeBackDone f c true s = ended f .busError s := by
  rw [writeBackDone, if_neg (by simp [run]), if_pos rfl, endList_eq]

theorem writeBackDone_written (f : InFlight) (c : Cell) (s : State) (run : s.engine = .run) :
    writeBackDone f c false s =
      if s.update.teardown then linked f c .tornDown .marking s else linked f c .complete .fetching s := by
  rw [writeBackDone, if_neg (by simp [run]), if_neg Bool.false_ne_true, tearDown_eq, followLink_eq]

theorem writeBackDone_resetting (f : InFlight) (c : Cell) (failed : Bool) (s : State) (resetting : s.engine = .resetting) :
    writeBackDone f c failed s = atBoundary failed s := by
  rw [writeBackDone, if_pos resetting, boundaryAfterWrite_eq _ _ resetting]

theorem markingDone_run (f : InFlight) (busError : Bool) (s : State) (run : s.engine = .run) :
    markingDone f busError s = ended f (if busError then .busError else .tornDown) s := by
  rw [markingDone, if_neg (by simp [run]), endList_eq]

theorem markingDone_resetting (f : InFlight) (busError : Bool) (s : State) (resetting : s.engine = .resetting) :
    markingDone f busError s = atBoundary busError s := by
  rw [markingDone, if_pos resetting, boundaryAfterWrite_eq _ _ resetting]

theorem fetchCompletes_resetting (reply : FetchReply) (s : State) (f : InFlight) (flight : s.update.inFlight = some f)
    (stage : f.stage = .fetching) (resetting : s.engine = .resetting) :
    fetchCompletes reply s = atBoundary false s :=
  (fetchCompletes_fetching reply s f flight stage).trans (fetchDone_resetting f reply s resetting)

theorem writeBackCompletes_resetting (handleError controlError : Bool) (s : State) (f : InFlight) (c : Cell)
    (handle : Option Word) (control : Word) (flight : s.update.inFlight = some f)
    (stage : f.stage = .writingBack c handle control) (resetting : s.engine = .resetting) :
    writeBackCompletes handleError controlError s =
      atBoundary (writeBackFailed handle handleError controlError)
        { s with masterWrites := writeBackWrites f.cell handle control handleError controlError } :=
  (writeBackCompletes_writingBack handleError controlError s f c handle control flight stage).trans
    (writeBackDone_resetting f c _ _ resetting)

theorem markingCompletes_resetting (busError : Bool) (s : State) (f : InFlight) (flight : s.update.inFlight = some f)
    (stage : f.stage = .marking) (resetting : s.engine = .resetting) :
    markingCompletes busError s = atBoundary busError { s with masterWrites := markingWrites f.cell busError } :=
  (markingCompletes_marking busError s f flight stage).trans (markingDone_resetting f busError _ resetting)

theorem linked_last {f : InFlight} {c : Cell} (last : ListStatus) (st : Stage) (s : State) (zero : c.link = 0) :
    linked f c last st s = ended f last s := if_pos zero

theorem linked_misaligned {f : InFlight} {c : Cell} (last : ListStatus) (st : Stage) (s : State)
    (misaligned : c.link.toNat % 32 ≠ 0) : linked f c last st s = ended f .badLink s := by
  have nonzero : c.link ≠ 0 := fun zero => misaligned (by rw [zero]; rfl)
  rw [linked, if_neg nonzero, if_pos misaligned]

theorem linked_legal {f : InFlight} {c : Cell} (last : ListStatus) (st : Stage) (s : State) (nonzero : c.link ≠ 0)
    (legal : c.link.toNat % 32 = 0) : linked f c last st s = atStage { f with cell := c.link } st s := by
  rw [linked, if_neg nonzero, if_neg (not_not.2 legal)]

end Sys2Proof.Machine

namespace Sys2Proof.Claims

open Sys2Proof.Machine

/-- Settles O32, by the stage that awaits the completion and by where the fetched copy's link leads. -/
theorem writeBackCompletesTheCell : Obligations.WriteBackCompletesTheCell := by
  intro s f c h w e1 e2 flight run
  refine ⟨fun stage => ⟨?_, ?_⟩, fun stage => ?_⟩
  · exact congrArg _ ((markingCompletes_marking false s f flight stage).trans (markingDone_run f false _ run))
  · exact congrArg _ ((markingCompletes_marking true s f flight stage).trans (markingDone_run f true _ run))
  · intro go writes both
    have go_eq : go = .next (writeBackDone f c (writeBackFailed h e1 e2) (writes (writeBackWrites f.cell h w e1 e2))) :=
      congrArg _ (writeBackCompletes_writingBack e1 e2 s f c h w flight stage)
    refine ⟨fun some_handle error => ?_, fun handled error => ?_, fun handled sound => ?_⟩
    · obtain ⟨v, rfl⟩ := Option.isSome_iff_exists.1 some_handle
      subst error
      exact go_eq.trans (congrArg _ (writeBackDone_failed f c _ run))
    · rw [go_eq, writeBackFailed_handle _ _ _ handled, writeBackWrites_handle _ _ _ _ _ handled, error, if_pos rfl,
        List.append_nil]
      exact congrArg _ (writeBackDone_failed f c _ run)
    · have written : go = .next
          (if s.update.teardown then linked f c .tornDown .marking (writes both)
            else linked f c .complete .fetching (writes both)) := by
        rw [go_eq, writeBackFailed_handle _ _ _ handled, writeBackWrites_handle _ _ _ _ _ handled, sound]
        exact congrArg _ (writeBackDone_written f c _ run)
      refine ⟨fun misaligned => ?_, fun alive last => ?_, fun alive nonzero legal => ?_, fun torn last => ?_,
        fun torn nonzero legal => ?_⟩
      · rw [written, linked_misaligned _ _ _ misaligned, linked_misaligned _ _ _ misaligned, ite_self]
      · rw [written, if_neg (by simp [alive]), linked_last _ _ _ last]
      · rw [written, if_neg (by simp [alive]), linked_legal _ _ _ nonzero legal]
      · rw [written, if_pos torn, linked_last _ _ _ last]
      · rw [written, if_pos torn, linked_legal _ _ _ nonzero legal]

/-- Settles O33: whichever completion the stage awaits, it makes the cell boundary. -/
theorem resetBoundaryDropsTheLists : Obligations.ResetBoundaryDropsTheLists := by
  intro s f flight resetting
  refine ⟨fun stage reply => ?_, fun stage e => ?_, fun c w stage e1 e2 => ?_, fun c h w stage e1 e2 => ?_⟩
  · exact congrArg _ (fetchCompletes_resetting reply s f flight stage resetting)
  · exact congrArg _ (markingCompletes_resetting e s f flight stage resetting)
  · exact congrArg _ (writeBackCompletes_resetting e1 e2 s f c none w flight stage resetting)
  · refine congrArg _ ((writeBackCompletes_resetting e1 e2 s f c (some h) w flight stage resetting).trans ?_)
    cases e1 <;> rfl

/-- Settles O27, by whether the submission is refused, waits, or begins. -/
theorem submissionIsAcceptedOrRefused : Obligations.SubmissionIsAcceptedOrRefused := by
  intro s high head serial ports u
  have submitted : exec (.submitHi high) s = .next { submit high s with ports := { (submit high s).ports with appIndex := 0x11 } } := rfl
  have accepted : s.engine = .run → s.update.waiting = none → submit high s =
      if s.update.inFlight.isSome then { s with update := { u with waiting := some ⟨head, serial⟩ } }
      else beginList ⟨head, serial⟩ { s with update := u } := by
    intro run waiting
    rw [submit, if_neg (by simp [submitRefused, run, waiting])]
    rfl
  refine ⟨fun refused => ?_, fun run flight waiting => ?_, fun run idle waiting => ⟨fun zero => ?_, fun misaligned => ?_,
    fun nonzero legal => ?_⟩⟩
  · have refused : submitRefused s = true := by
      rcases refused with resetting | ⟨flight, waiting⟩
      · simp [submitRefused, resetting]
      · simp [submitRefused, flight, waiting]
    rw [submitted, submit, if_pos refused, raiseApp_eq_raised]
  · rw [submitted, accepted run waiting, if_pos flight]
  all_goals rw [submitted, accepted run waiting, if_neg (by simp [idle])]
  · rw [beginList_zero _ _ zero]
    simp [u, idle, ports]
  · rw [beginList_misaligned _ _ misaligned]
    simp [u, idle, ports]
  · rw [beginList_legal _ _ nonzero legal]

end Sys2Proof.Claims

/-! ## Acknowledgement, fetched cells, table ops and drag cells (R84 to R91) -/

namespace Sys2Proof.Machine

open Sys2Proof.Claims

/-! ### The done count (R90, R91) -/

/-- How many endings the ending of the list in flight makes (R82, R83, R94). -/
def UpdateEngine.endings (u : UpdateEngine) : Nat :=
  match u.waiting with
  | none => 1
  | some l => if u.teardown = true ∨ l.head = 0 ∨ l.head.toNat % 32 ≠ 0 then 2 else 1

theorem UpdateEngine.endings_bounds (u : UpdateEngine) : 1 ≤ u.endings ∧ u.endings ≤ 2 := by
  unfold UpdateEngine.endings
  split
  · decide
  · split <;> decide

theorem engineAfterEnding_done (f : InFlight) (status : ListStatus) (u : UpdateEngine) :
    (engineAfterEnding f status u).done = doneBy u.endings u.done := by
  unfold engineAfterEnding UpdateEngine.endings
  cases u.waiting with
  | none => rfl
  | some l =>
    dsimp only
    split_ifs with torn zero misaligned <;> simp_all

/-- The update engine after an UPDATE_ACK (R91). -/
def UpdateEngine.acknowledged (u : UpdateEngine) : UpdateEngine :=
  { u with done := if u.done = 0 then 0 else u.done - 1 }

theorem exec_updateAck (s : State) : exec .updateAck s =
    .next { s with update := s.update.acknowledged, ports := { s.ports with appIndex := 0 } } := rfl

theorem UpdateEngine.acknowledged_done (u : UpdateEngine) : u.acknowledged.done.toNat = u.done.toNat - 1 := by
  unfold UpdateEngine.acknowledged
  dsimp only
  split
  · rename_i zero
    rw [zero]
    rfl
  · rename_i nonzero
    have positive : u.done.toNat ≠ 0 := fun zero => nonzero (BitVec.eq_of_toNat_eq zero)
    have one : (1 : BitVec 8).toNat = 1 := rfl
    rw [BitVec.toNat_sub, one]
    omega

/-! ### The control word of a write-back (R88, R192) -/

theorem keptMask_getLsbD (n : Nat) (inWord : n < 32) :
    (0x3F00FFFF#32).getLsbD n = decide (n < 16 ∨ (24 ≤ n ∧ n < 30)) := by
  have all : ∀ m : Fin 32, (0x3F00FFFF#32).getLsbD m = decide (m.val < 16 ∨ (24 ≤ m.val ∧ m.val < 30)) := by decide
  exact all ⟨n, inWord⟩

/-- A write-back keeps the fetched bits but for the result in bits 23..16, and EO and TD, which are clear. -/
theorem writeBackControl_getLsbD (c : Cell) (r : CellResult) (n : Nat) (inWord : n < 32) :
    (writeBackControl c r).getLsbD n =
      ((c.control.getLsbD n && decide (n < 16 ∨ (24 ≤ n ∧ n < 30))) ||
        (decide (16 ≤ n) && r.code.getLsbD (n - 16))) := by
  change ((c.control &&& 0x3F00FFFF#32) ||| (r.code.setWidth 32 <<< 16)).getLsbD n = _
  rw [BitVec.getLsbD_or, BitVec.getLsbD_and, keptMask_getLsbD n inWord, BitVec.getLsbD_shiftLeft,
    BitVec.getLsbD_setWidth]
  congr 1
  by_cases low : n < 16
  · simp [low]
  · have high : 16 ≤ n := Nat.le_of_not_lt low
    simp [low, high, inWord, show n - 16 < 32 by omega]

theorem writeBackControl_result (c : Cell) (r : CellResult) : (writeBackControl c r).extractLsb' 16 8 = r.code := by
  apply BitVec.eq_of_getLsbD_eq
  intro i inByte
  rw [BitVec.getLsbD_extractLsb', decide_eq_true inByte, Bool.true_and,
    writeBackControl_getLsbD c r _ (by omega)]
  simp [show ¬ (16 + i < 16) by omega, show ¬ (24 ≤ 16 + i) by omega]

/-- Bits above the result byte come from the fetched word alone. -/
theorem writeBackControl_outside (c : Cell) (r : CellResult) (n : Nat) (inWord : n < 32)
    (outside : n < 16 ∨ 24 ≤ n) :
    (writeBackControl c r).getLsbD n = (c.control.getLsbD n && decide (n < 16 ∨ (24 ≤ n ∧ n < 30))) := by
  rw [writeBackControl_getLsbD c r n inWord]
  rcases outside with low | high
  · simp [show ¬ 16 ≤ n by omega]
  · rw [BitVec.getLsbD_of_ge r.code _ (by omega), Bool.and_false, Bool.or_false]

/-! ### Table ops (R76, R85) -/

theorem Requests.set_set (w : Requests) (r : Requester) (a b : Bool) : (w.set r a).set r b = w.set r b := by
  cases r <;> rfl

/-- A request that comes to a free table with nobody waiting is granted at once (R76). -/
theorem request_alone (r : Requester) (s : State) (free : s.arbiter.holder = none)
    (nobody : ∀ r, s.arbiter.waiting.get r = false) : request r s = grantTo r s := by
  have next : (⟨s.arbiter.holder, s.arbiter.waiting.set r true, s.arbiter.turn⟩ : Arbiter).next = some r := by
    cases found : (⟨s.arbiter.holder, s.arbiter.waiting.set r true, s.arbiter.turn⟩ : Arbiter).next with
    | none =>
      have idle := (Arbiter.next_eq_none _).1 found r
      simp [Requests.get_set] at idle
    | some x =>
      have waits := Arbiter.next_waits _ x found
      simp only [Requests.get_set, nobody, ite_eq_left_iff, Bool.false_eq_true, imp_false, not_not] at waits
      rw [waits]
  refine (arbitrate_of_next (s.withArbiter { s.arbiter with waiting := s.arbiter.waiting.set r true }) r free next).trans ?_
  simp only [grantTo, State.withArbiter, Requests.set_set]

/-- A release with nobody waiting frees the table alone, unless a build start waits for it with an apply (R76, R149). -/
theorem releaseGrant_nobody (s : State) (noBuild : s.engine = .resetting ∨ s.applyPending = false)
    (nobody : ∀ r, s.arbiter.waiting.get r = false) :
    releaseGrant s = { s with arbiter := { s.arbiter with holder := none } } := by
  have still : (buildDue (freeHolder s) && (freeHolder s).applyPending) = false := by
    rcases noBuild with resetting | noApply
    · simp [buildDue, freeHolder, State.withArbiter, resetting]
    · simp [freeHolder, State.withArbiter, noApply]
  unfold releaseGrant
  dsimp only
  rw [still]
  exact arbitrate_of_nobody _ nobody

theorem isTableOp_iff (op : Nat) : isTableOp op = true ↔ 1 ≤ op ∧ op ≤ 5 := by simp [isTableOp]

theorem dispatch_tableOp (f : InFlight) (c : Cell) (s : State) (op : 1 ≤ c.op ∧ c.op ≤ 5) :
    dispatch f c s = request .update (atStage f (.waiting c) s) := if_pos ((isTableOp_iff _).2 op)

theorem dispatch_nop (f : InFlight) (c : Cell) (s : State) (op : c.op = 0) :
    dispatch f c s = atStage f (.writingBack c none (writeBackControl c .ok)) s := by
  rw [dispatch, if_neg (by simp [op, isTableOp]), if_pos op]
  rfl

theorem dispatch_badOp (f : InFlight) (c : Cell) (s : State) (op : 8 ≤ c.op) :
    dispatch f c s = atStage f (.writingBack c none (writeBackControl c .badOp)) s := by
  rw [dispatch, if_neg (by rw [isTableOp_iff]; omega), if_neg (by omega), if_pos op]
  rfl

theorem dispatch_drag (f : InFlight) (c : Cell) (s : State) (op : c.op = 6 ∨ c.op = 7) :
    dispatch f c s = if s.arbiter.holder = some .commit then atStage f (.waiting c) s else applyDrag f c s := by
  rw [dispatch, if_neg (by rw [isTableOp_iff]; omega), if_neg (by omega), if_neg (by omega)]
  simp only [commitInProgress, beq_iff_eq]
  rfl

/-- The cell that waits is granted with the table free and nobody waiting (R76, R85). -/
theorem request_update_alone (f : InFlight) (c : Cell) (s : State) (free : s.arbiter.holder = none)
    (nobody : ∀ r, s.arbiter.waiting.get r = false) :
    request .update (atStage f (.waiting c) s) =
      { atStage f (.granted c) s with arbiter := { s.arbiter with holder := some .update, turn := .update } } := by
  rw [request_alone .update (atStage f (.waiting c) s) free nobody]
  have waiting : (atStage f (.waiting c) s).arbiter.waiting.set .update false = s.arbiter.waiting :=
    Requests.set_false _ _ (nobody .update)
  rw [grantTo, waiting]
  rfl

theorem fetchCompletion_dispatches (f : InFlight) (c : Cell) (s : State) (flight : s.update.inFlight = some f)
    (stage : f.stage = .fetching) (run : s.engine = .run) (owned : 2 ^ 31 ≤ c.control.toNat) :
    exec (.fetchCompletion (.cell c)) s = .next (dispatch { f with applied := f.applied + 1 } c s) := by
  refine congrArg _ ((fetchCompletes_fetching _ s f flight stage).trans ?_)
  rw [fetchDone_cell f c s run, if_pos owned]

theorem cellApplies_applying (s : State) (f : InFlight) (c : Cell) (flight : s.update.inFlight = some f)
    (stage : f.stage = .applying c) (held : s.arbiter.holder = some .update) :
    cellApplies s = cellApplied f c s := by
  obtain ⟨list, applied, cell, st⟩ := f
  cases stage
  simp only [cellApplies, flight, held]

theorem cellApplies_other (s : State) (other : ∀ f c, s.update.inFlight = some f → f.stage ≠ .applying c) :
    cellApplies s = s := by
  unfold cellApplies
  split
  · rename_i flight _
    exact absurd rfl (other _ _ flight)
  · rfl

theorem tableGrant_granted (s : State) (f : InFlight) (c : Cell) (flight : s.update.inFlight = some f)
    (stage : f.stage = .granted c) (held : s.arbiter.holder = some .update) :
    tableGrant s = atStage f (.applying c) s := by
  obtain ⟨list, applied, cell, st⟩ := f
  cases stage
  simp only [tableGrant, arbitrate_held s .update held, held, beginGrantedCell, flight]
  rfl

/-! ### Drag cells (R24, R86) -/

/-- A drag cell dispatched with no commit in progress makes its change (R86, R87). -/
theorem fetchCompletion_drag (f : InFlight) (c : Cell) (s : State) (flight : s.update.inFlight = some f)
    (stage : f.stage = .fetching) (run : s.engine = .run) (owned : 2 ^ 31 ≤ c.control.toNat)
    (op : c.op = 6 ∨ c.op = 7) (noCommit : s.arbiter.holder ≠ some .commit) (d : Drag) (result : CellResult)
    (outcome : dragOutcome s.tool.drag c = (d, result)) :
    exec (.fetchCompletion (.cell c)) s = .next
      { atStage { f with applied := f.applied + 1 } (.writingBack c none (writeBackControl c result)) s with
        tool := { s.tool with drag := d }
        builder := { s.builder with rebuild := s.builder.rebuild || result == .ok } } := by
  rw [fetchCompletion_dispatches f c s flight stage run owned, dispatch_drag _ c s op, if_neg noCommit, applyDrag_eq,
    outcome]
  rfl

theorem dragOutcome_begin (d : Drag) (c : Cell) (op : c.op = 6) :
    dragOutcome d c = if c.p0.inWorld then (⟨some c.p0, []⟩, .ok) else (d, .outOfRange) := if_pos op

theorem dragOutcome_outOfRange (d : Drag) (c : Cell) (op : c.op = 7)
    (outside : c.p0.inWorld = false ∨ c.p1.inWorld = false) : dragOutcome d c = (d, .outOfRange) := by
  rw [dragOutcome, if_neg (by omega), if_pos (Bool.and_eq_false_iff.2 outside)]

theorem dragOutcome_segment (d : Drag) (c : Cell) (op : c.op = 7) (inside : c.p0.inWorld = true ∧ c.p1.inWorld = true) :
    dragOutcome d c =
      match d.base with
      | none => (d, .noBase)
      | some base =>
        if 64 ≤ d.figure.length then (d, .dragFull)
        else (⟨some base, d.figure ++ [⟨⟨c.p0.x - base.x, c.p0.y - base.y⟩, ⟨c.p1.x - base.x, c.p1.y - base.y⟩⟩]⟩, .ok) := by
  rw [dragOutcome, if_neg (by omega), if_neg (by simp [inside])]
  rfl

end Sys2Proof.Machine

namespace Sys2Proof.Claims

open Sys2Proof.Machine

/-- Settles O28: both orders add the endings and take one off, each with its own bound. -/
theorem updateAckLowersTheDoneCount : Obligations.UpdateAckLowersTheDoneCount := by
  intro s
  refine ⟨_, exec_updateAck s, rfl, s.update.acknowledged_done, fun f status => ⟨_, exec_updateAck _, ?_⟩⟩
  intro ackFirst endFirst d n
  have first : ackFirst = min 255 (d - 1 + n) := by
    show (engineAfterEnding f status s.update.acknowledged).done.toNat = _
    rw [engineAfterEnding_done, doneBy_toNat, UpdateEngine.acknowledged_done]
    rfl
  have last : endFirst = min 255 (d + n) - 1 := by
    show (engineAfterEnding f status s.update).acknowledged.done.toNat = _
    rw [UpdateEngine.acknowledged_done, engineAfterEnding_done, doneBy_toNat]
    rfl
  have bounds : 1 ≤ n ∧ n ≤ 2 := s.update.endings_bounds
  have small : d < 256 := s.update.done.isLt
  refine ⟨fun _ _ => ?_, fun _ => ?_, fun _ => ?_⟩
  all_goals omega

/-- Settles O29, by the bus's answer, EO and the op of the cell. -/
theorem fetchEndsTheListOrDispatchesTheCell : Obligations.FetchEndsTheListOrDispatchesTheCell := by
  refine ⟨fun c => ⟨?_, ?_, ?_, ?_, rfl, rfl⟩, fun s f c flight => ?_⟩
  · simp [Cell.op, BitVec.extractLsb'_toNat, Nat.shiftRight_eq_div_pow]
  · simp [Cell.kind, BitVec.extractLsb'_toNat]
  · simp [Cell.tag, BitVec.extractLsb'_toNat]
  · have word : c.classWord.toNat < 65536 * 65536 := c.classWord.isLt
    simp [Cell.mask, BitVec.extractLsb'_toNat, Nat.shiftRight_eq_div_pow]
    omega
  · intro run
    refine ⟨fun other reply => ?_, fun stage inRun => ⟨?_, fun stopped => ?_, fun owned => ?_⟩⟩
    · refine congrArg _ (fetchCompletes_other reply s fun g again => ?_)
      rw [flight] at again
      cases again
      exact other
    · exact congrArg _ ((fetchCompletes_fetching _ s f flight stage).trans (fetchDone_busError f s inRun))
    · refine congrArg _ ((fetchCompletes_fetching _ s f flight stage).trans ?_)
      rw [fetchDone_cell f c s inRun, if_neg (by omega)]
    · intro counted
      have dispatched : run = .next (dispatch counted c s) := fetchCompletion_dispatches f c s flight stage inRun owned
      refine ⟨fun op => ?_, fun op => ?_, fun low high free nobody => ?_, fun low high held => ?_, fun op held => ?_⟩
      · rw [dispatched, dispatch_nop counted c s op]
      · rw [dispatched, dispatch_badOp counted c s op]
      · rw [dispatched, dispatch_tableOp counted c s ⟨low, high⟩, request_update_alone counted c s free nobody]
      · obtain ⟨x, held⟩ := Option.ne_none_iff_exists'.1 held
        rw [dispatched, dispatch_tableOp counted c s ⟨low, high⟩]
        exact congrArg _ (request_held .update x (atStage counted (.waiting c) s) held)
      · rw [dispatched, dispatch_drag counted c s op, if_pos held]

/-- Settles O31: the op completes under its grant and the release finds nobody waiting. -/
theorem cellApplicationCompletesTheOp : Obligations.CellApplicationCompletesTheOp := by
  refine ⟨fun c e mem => ?_, fun c r => ⟨?_, ?_, fun n kept => ?_⟩, fun s f c flight stage held => ⟨?_, ?_⟩,
    fun s f c flight stage held nobody noBuild => ?_⟩
  · rw [writeBackControl_result]
    revert e
    decide
  · rw [writeBackControl_outside c r 31 (by decide) (by decide)]
    simp
  · rw [writeBackControl_outside c r 30 (by decide) (by decide)]
    simp
  · rw [writeBackControl_outside c r n (by omega) (by omega), decide_eq_true kept, Bool.and_true]
  · exact congrArg _ (tableGrant_granted s f c flight stage held)
  · refine congrArg _ (cellApplies_other s fun g c' again => ?_)
    rw [flight] at again
    cases again
    rw [stage]
    simp
  · refine congrArg _ ((cellApplies_applying s f c flight stage held).trans ?_)
    exact releaseGrant_nobody (startWriteBack f c (s.table.applyOp c).result (s.table.applyOp c).handleWord
      (putTable (s.table.applyOp c).table s)) noBuild nobody

end Sys2Proof.Claims

/-! ## A drag cell that waits for the commit in progress (R86, R87) -/

namespace Sys2Proof.Machine

open Sys2Proof.Claims

/-- The same state with no list in flight. -/
def State.withoutList (s : State) : State := { s with update := { s.update with inFlight := none } }

/-- The state with the list's cell fetched once more: not yet counted, and its fetch outstanding. -/
def State.refetching (f : InFlight) (u : UpdateEngine) (t : State) : State :=
  { t with update := { u with inFlight := some { f with stage := .fetching, applied := f.applied - 1 } } }

/-- A drag cell waits for the commit in progress, and nothing else waits (R87). -/
structure DragWaits (f : InFlight) (c : Cell) (s : State) : Prop where
  flight : s.update.inFlight = some f
  stage : f.stage = .waiting c
  run : s.engine = .run
  owned : 2 ^ 31 ≤ c.control.toNat
  op : c.op = 6 ∨ c.op = 7
  apply : s.applyPending = false
  nobody : ∀ r, s.arbiter.waiting.get r = false

/-- The outcomes of a command with the drag cell waiting, and with no list in flight: where the commit ends without a
list, it ends with one as well, and the cell's change is that of its dispatch after the commit's end. -/
def Resumes (f : InFlight) (c : Cell) (s whole alone : State) : Prop :=
  alone.tool.commit = none → alone.arbiter.holder = none →
    whole = fetchCompletes (.cell c) (alone.refetching f s.update)

/-- A command that leaves the grant where it is ends no commit. -/
theorem Resumes.of_held {f : InFlight} {c : Cell} {s whole alone : State} {r : Requester}
    (held : alone.arbiter.holder = some r) : Resumes f c s whole alone :=
  fun _ free => absurd (held.symm.trans free) (by simp)

theorem DragWaits.congr {f : InFlight} {c : Cell} {s u : State} (h : DragWaits f c s) (update : u.update = s.update)
    (engine : u.engine = s.engine) (apply : u.applyPending = s.applyPending) (arbiter : u.arbiter = s.arbiter) :
    DragWaits f c u :=
  ⟨by rw [update]; exact h.flight, h.stage, engine.trans h.run, h.owned, h.op, apply.trans h.apply,
    by rw [arbiter]; exact h.nobody⟩

theorem applyWaitingDrag_waits {f : InFlight} {c : Cell} {s : State} (h : DragWaits f c s) :
    applyWaitingDrag s = applyDrag f c s := by
  have notTable : isTableOp c.op = false := by
    rcases h.op with op | op <;> rw [op] <;> rfl
  obtain ⟨list, applied, cell, st⟩ := f
  obtain ⟨flight, stage, -⟩ := h
  cases stage
  simp [applyWaitingDrag, flight, notTable]

/-- The dispatch of the cell fetched once more, with no commit in progress (R86, R87). -/
theorem fetchCompletes_refetching {f : InFlight} {c : Cell} {s t : State} (h : DragWaits f c s) (run : t.engine = .run)
    (free : t.arbiter.holder = none) :
    fetchCompletes (.cell c) (t.refetching f s.update) = applyDrag f c { t with update := s.update } := by
  have notHeld : (t.refetching f s.update).arbiter.holder ≠ some .commit := fun held => by cases free.symm.trans held
  rw [fetchCompletes_fetching (.cell c) (t.refetching f s.update) _ rfl rfl,
    fetchDone_cell _ c (t.refetching f s.update) run, if_pos h.owned, dispatch_drag _ _ _ h.op, if_neg notHeld,
    applyDrag_eq, applyDrag_eq]
  simp only [State.refetching, BitVec.sub_add_cancel]

/-- The commit has ended with nothing waiting for its end: no commit is left, its press is handled, the table is free
(R126, R127). -/
def State.afterCommit (p : CommitInHand) (s : State) : State :=
  { s with
    tool := { s.tool with commit := none }
    link := { s.link with queue := if p.queued then queueAfter p.button s.link.queue else s.link.queue }
    arbiter := { s.arbiter with holder := none } }

/-- The end of the commit that the cell waits for (R87, R126, R127). -/
theorem endCommit_waits (p : CommitInHand) {f : InFlight} {c : Cell} {s : State} (h : DragWaits f c s) :
    endCommit p s = applyDrag f c (s.afterCommit p) := by
  have left : commitLeft p s = applyDrag f c (handlePress p (s.withTool { s.tool with commit := none })) := by
    have waits : DragWaits f c (handlePress p (s.withTool { s.tool with commit := none })) := by
      rw [handlePress_eq]
      exact h.congr rfl rfl rfl rfl
    unfold commitLeft
    dsimp only
    rw [applyWaitingDrag_waits waits, handlePress_eq, applyDrag_eq]
    simp [settleReset, h.run, State.withTool]
  rw [endCommit_eq_releaseGrant, left, handlePress_eq, applyDrag_eq, applyDrag_eq]
  exact releaseGrant_quiet _ h.apply h.nobody

theorem endCommit_resumes (p : CommitInHand) {f : InFlight} {c : Cell} {s u : State} (h : DragWaits f c s)
    (waits : DragWaits f c u) (update : u.update = s.update) : Resumes f c s (endCommit p u) (endCommit p u.withoutList) := by
  have alone : endCommit p u.withoutList = u.withoutList.afterCommit p :=
    endCommit_quiet p u.withoutList waits.run waits.apply waits.nobody (fun _ e => nomatch e)
  intro _ _
  rw [alone, endCommit_waits p waits, fetchCompletes_refetching h (t := u.withoutList.afterCommit p) waits.run rfl,
    ← update]
  rfl

/-! ### TABLE_GRANT and RESOLUTION_END with a drag cell waiting -/

theorem emptyCapture_withoutList (s : State) : emptyCapture s.withoutList = (emptyCapture s).withoutList := by
  rw [emptyCapture_eq, emptyCapture_eq]
  rfl

theorem commitPoint_resumes (p : CommitInHand) {f : InFlight} {c : Cell} {s : State} (h : DragWaits f c s)
    (held : s.arbiter.holder = some .commit) : Resumes f c s (commitPoint p s) (commitPoint p s.withoutList) := by
  unfold commitPoint
  rw [show s.withoutList.active = s.active from rfl]
  split
  · unfold commitMenuPick
    dsimp only
    rw [emptyCapture_withoutList, emptyCapture_eq]
    exact endCommit_resumes p h (h.congr rfl rfl rfl rfl) rfl
  · exact .of_held (r := .commit) held

theorem commitAccepted_resumes (p : CommitInHand) {f : InFlight} {c : Cell} {s : State} (h : DragWaits f c s)
    (held : s.arbiter.holder = some .commit) : Resumes f c s (commitAccepted p s) (commitAccepted p s.withoutList) := by
  unfold commitAccepted
  split
  · exact endCommit_resumes p h (h.congr rfl rfl rfl rfl) rfl
  · exact endCommit_resumes p h (h.congr rfl rfl rfl rfl) rfl
  · exact commitPoint_resumes p h held
  · exact commitPoint_resumes p h held

theorem beginCommit_resumes (p : CommitInHand) {f : InFlight} {c : Cell} {s : State} (h : DragWaits f c s)
    (held : s.arbiter.holder = some .commit) : Resumes f c s (beginCommit p s) (beginCommit p s.withoutList) := by
  unfold beginCommit
  rw [show s.withoutList.applyPending = s.applyPending from rfl, h.apply]
  dsimp only
  rw [if_neg Bool.false_ne_true, if_neg Bool.false_ne_true,
    show commitRefusal p.button s.withoutList = commitRefusal p.button s from rfl]
  split
  · exact endCommit_resumes p h (h.congr rfl rfl rfl rfl) rfl
  · exact commitAccepted_resumes p h held

theorem tableGrant_resumes {f : InFlight} {c : Cell} {s : State} (h : DragWaits f c s)
    (held : s.arbiter.holder = some .commit) : Resumes f c s (tableGrant s) (tableGrant s.withoutList) := by
  have alone : s.withoutList.arbiter.holder = some .commit := held
  unfold tableGrant
  rw [arbitrate_held s .commit held, arbitrate_held _ .commit alone]
  dsimp only
  rw [held, alone]
  dsimp only
  unfold beginGrantedCommit
  rw [show s.withoutList.tool = s.tool from rfl]
  split
  · exact beginCommit_resumes _ h held
  · exact .of_held alone

theorem finishCommit_resumes (p : CommitInHand) (r : Resolution) {f : InFlight} {c : Cell} {s u : State}
    (h : DragWaits f c s) (waits : DragWaits f c u) (update : u.update = s.update)
    (held : u.arbiter.holder = some .commit) :
    Resumes f c s (finishCommit p r u) (finishCommit p r u.withoutList) := by
  unfold finishCommit
  split
  · exact endCommit_resumes p h (waits.congr rfl rfl rfl rfl) update
  · exact endCommit_resumes p h (waits.congr rfl rfl rfl rfl) update
  · exact .of_held (r := .commit) held
  · exact .of_held (r := .commit) held

theorem resolutionEnds_resumes {f : InFlight} {c : Cell} {s : State} (h : DragWaits f c s)
    (held : s.arbiter.holder = some .commit) : Resumes f c s (resolutionEnds s) (resolutionEnds s.withoutList) := by
  unfold resolutionEnds
  rw [show s.withoutList.resolver = s.resolver from rfl, show s.withoutList.table = s.table from rfl]
  split
  · exact .of_held (r := .commit) held
  · rename_i inputs _
    generalize resolve inputs s.table = r
    dsimp only [endResolution_arbiter]
    rw [show s.withoutList.arbiter.holder = some .commit from held, held]
    dsimp only
    unfold endCommitResolution
    rw [show (endResolution r s.withoutList).tool = s.tool from rfl, show (endResolution r s).tool = s.tool from rfl]
    split
    · exact finishCommit_resumes _ r h (h.congr rfl rfl rfl rfl) rfl held
    · exact .of_held (r := .commit) held

end Sys2Proof.Machine

namespace Sys2Proof.Claims

open Sys2Proof.Machine

/-- Settles O30: the commit ends alike with and without the list, and a cell dispatched makes the change of its outcome. -/
theorem dragCellsChangeTheFigure : Obligations.DragCellsChangeTheFigure := by
  refine ⟨fun s t f c ending flight stage run owned op held apply nobody is_ending alone noCommit free => ?_,
    fun s f c flight stage run owned notHeld => ?_⟩
  · have waits : DragWaits f c s := ⟨flight, stage, run, owned, op, apply, nobody⟩
    rcases is_ending with rfl | rfl
    · obtain rfl : tableGrant s.withoutList = t := Host.Outcome.next.inj alone
      exact congrArg _ (tableGrant_resumes waits held noCommit free)
    · obtain rfl : resolutionEnds s.withoutList = t := Host.Outcome.next.inj alone
      exact congrArg _ (resolutionEnds_resumes waits held noCommit free)
  · intro after d
    have dispatched : c.op = 6 ∨ c.op = 7 → ∀ d' result, dragOutcome d c = (d', result) →
        after result d' (result == .ok) := fun op d' result outcome =>
      fetchCompletion_drag f c s flight stage run owned op notHeld d' result outcome
    refine ⟨fun op inside => ?_, fun op outside => ?_, fun op outside => ?_,
      fun op inside0 inside1 => ⟨fun noBase => ?_, fun base set => ⟨fun full => ?_, fun room => ?_⟩⟩⟩
    · exact dispatched (.inl op) _ .ok (by rw [dragOutcome_begin d c op, if_pos inside])
    · exact dispatched (.inl op) _ .outOfRange (by rw [dragOutcome_begin d c op, if_neg (by simp [outside])])
    · exact dispatched (.inr op) _ .outOfRange (dragOutcome_outOfRange d c op outside)
    · exact dispatched (.inr op) _ .noBase (by rw [dragOutcome_segment d c op ⟨inside0, inside1⟩, noBase])
    · refine dispatched (.inr op) _ .dragFull ?_
      rw [dragOutcome_segment d c op ⟨inside0, inside1⟩, set]
      exact if_pos full
    · refine dispatched (.inr op) _ .ok ?_
      rw [dragOutcome_segment d c op ⟨inside0, inside1⟩, set]
      exact if_neg (Nat.not_le.2 room)

end Sys2Proof.Claims

/-! ## The awaited completions end every reset (R96, R145, R183) -/

namespace Sys2Proof.Machine

open Sys2Proof.Claims

/-! ### Notices stay raised (R188) -/

/-- The notices raised before stay raised. -/
def KeepsRaised (s t : State) : Prop :=
  ∀ i, s.appNotices.raised.getLsbD i = true → t.appNotices.raised.getLsbD i = true

theorem KeepsRaised.of_eq {s t : State} (h : t.appNotices = s.appNotices) : KeepsRaised s t := fun i raised => by
  rw [h]
  exact raised

theorem KeepsRaised.trans {s t u : State} (h : KeepsRaised s t) (k : KeepsRaised t u) : KeepsRaised s u :=
  fun i raised => k i (h i raised)

theorem raiseApp_keepsRaised (n : AppNotice) (s : State) : KeepsRaised s (raiseApp n s) := fun i raised => by
  show (s.appNotices.raised ||| oneBit 14 n.bit).getLsbD i = true
  rw [BitVec.getLsbD_or, raised, Bool.true_or]

theorem applyDevice_keepsRaised (old new : Settings) (s : State) : KeepsRaised s (applyDevice old new s) := by
  have lost : (cursorLost s).appNotices = s.appNotices := by rw [cursorLost_eq]
  unfold applyDevice
  dsimp only
  split
  · exact .of_eq rfl
  · split
    · exact KeepsRaised.trans (.of_eq (t := (cursorLost s).withLink _) lost) (raiseApp_keepsRaised _ _)
    · exact .of_eq lost

theorem takeApply_keepsRaised (s : State) : KeepsRaised s (takeApply s) := by
  unfold takeApply
  dsimp only
  generalize s.staged.clamped s.active.tool = new
  obtain ⟨c, d, applied⟩ := applyTool_frame s.active new { s with active := new }
  rw [applied]
  dsimp only
  generalize trimmed : putTable (s.table.trim new.learnCap.toNat)
    { s with active := new, tool := { s.tool with context := c, drag := d } } = u
  have first : KeepsRaised s u := .of_eq (by rw [← trimmed]; rfl)
  have rate : (applyRate s.active new u).appNotices = u.appNotices := by
    unfold applyRate
    split <;> rfl
  have device : KeepsRaised s (raiseApp .settingsApplied (applyDevice s.active new (applyRate s.active new u))) :=
    first.trans ((KeepsRaised.of_eq rate).trans
      ((applyDevice_keepsRaised _ _ _).trans (raiseApp_keepsRaised _ _)))
  split
  · exact device.trans (raiseApp_keepsRaised _ _)
  · exact device

theorem arbitrate_keepsRaised (s : State) : KeepsRaised s (arbitrate s) := by
  obtain ⟨a, f, p, q, h⟩ := arbitrate_frame s
  exact .of_eq (by rw [h])

/-! ### The release at the end of a commit -/

/-- With no cell waiting a grant leaves the course of lists, commit and reset (R85). -/
theorem arbitrate_course (s : State) (cells : ∀ c, s.stage ≠ some (.waiting c)) : (arbitrate s).course = s.course := by
  rcases arbitrate_cases s with ⟨e, -⟩ | ⟨r, -, -, e⟩
  · rw [e]
  · rw [e]
    cases r with
    | commit => rfl
    | build => rfl
    | pick0 => rfl
    | pick1 => rfl
    | update =>
      unfold grantTo enterGrant
      dsimp only
      split
      · rename_i list applied cell c flight
        have flight : s.update.inFlight = some ⟨list, applied, cell, .waiting c⟩ := flight
        exact absurd (by rw [State.stage, flight]; rfl) (cells c)
      · rfl

/-- In RESETTING no build start is made at a release (R148, R149). -/
theorem releaseGrant_course (s : State) (resetting : s.engine = .resetting) (cells : ∀ c, s.stage ≠ some (.waiting c)) :
    (releaseGrant s).course = s.course := by
  have still : (buildDue (freeHolder s) && (freeHolder s).applyPending) = false := by
    simp [buildDue, freeHolder, State.withArbiter, resetting]
  unfold releaseGrant
  dsimp only
  rw [still]
  exact arbitrate_course (freeHolder s) cells

/-- The reset has ended: the engine is in RUN with RESET_DONE raised, and no list, commit, anchor, figure, record or
capture is left (R96, R114, R145, R183). -/
structure State.Returned (s : State) : Prop where
  run : s.engine = .run
  lists : s.update.inFlight = none
  commit : s.tool.commit = none
  notice : s.appNotices.raised.getLsbD 13 = true
  context : s.tool.context = ToolContext.empty
  drag : s.tool.drag = Drag.empty
  log : s.tool.log = []
  capture : s.resolver.capture = none

theorem State.Returned.congr {s t : State} (h : s.Returned) (raised : KeepsRaised s t) (engine : t.engine = s.engine)
    (update : t.update.inFlight = s.update.inFlight) (tool : t.tool = s.tool)
    (capture : t.resolver.capture = s.resolver.capture) : t.Returned :=
  ⟨engine.trans h.run, update.trans h.lists, by rw [tool]; exact h.commit, raised 13 h.notice,
    by rw [tool]; exact h.context, by rw [tool]; exact h.drag, by rw [tool]; exact h.log, capture.trans h.capture⟩

theorem State.Returned.arbitrate {s : State} (h : s.Returned) : (arbitrate s).Returned := by
  have course := arbitrate_course s fun c stage => by
    rw [State.stage, h.lists] at stage
    cases stage
  obtain ⟨a, f, p, q, frame⟩ := arbitrate_frame s
  exact h.congr (arbitrate_keepsRaised s) (by rw [frame]) (congrArg Course.inFlight course) (by rw [frame])
    (by rw [frame])

theorem State.Returned.takeApply {s : State} (h : s.Returned) : (takeApply s).Returned := by
  have raised := takeApply_keepsRaised s
  have tool := takeApply_tool s
  obtain ⟨l, n, c, d, frame⟩ := takeApply_frame s
  have engine : (Machine.takeApply s).engine = s.engine := by rw [frame]
  have lists : (Machine.takeApply s).update.inFlight = s.update.inFlight := by rw [frame]
  have capture : (Machine.takeApply s).resolver.capture = s.resolver.capture := by rw [frame]
  rcases tool with same | cleared
  · exact h.congr raised engine lists same capture
  · exact ⟨engine.trans h.run, lists.trans h.lists, by rw [cleared]; exact h.commit, raised 13 h.notice,
      by rw [cleared], by rw [cleared], by rw [cleared]; exact h.log, capture.trans h.capture⟩

theorem State.Returned.emptyCapture {s : State} (h : s.Returned) : (emptyCapture s).Returned := by
  rw [emptyCapture_eq]
  exact h.congr (.of_eq rfl) rfl rfl rfl (by dsimp only; rw [h.capture, ite_self])

theorem State.Returned.beginBuild {s : State} (h : s.Returned) (bank : Fin 3) : (beginBuild bank s).Returned := by
  have started : (withBuild bank s).Returned := h.congr (.of_eq rfl) rfl rfl rfl rfl
  rw [beginBuild_eq_afterSnapshot]
  generalize buildSort (takeSnapshot s) = sort
  cases sort with
  | cursor c mode => exact State.Returned.arbitrate (started.congr (.of_eq rfl) rfl rfl rfl rfl)
  | menu window cell => exact started.emptyCapture
  | absent => exact started

/-- A build start that waited with an apply is made after the return to RUN, and undoes nothing of it (R149). -/
theorem State.Returned.releaseGrant {s : State} (h : s.Returned) : (releaseGrant s).Returned := by
  have freed : (freeHolder s).Returned := h.congr (.of_eq rfl) rfl rfl rfl rfl
  unfold Machine.releaseGrant makeBuildStart
  dsimp only
  refine State.Returned.arbitrate ?_
  split
  · split
    · exact freed
    · split
      · exact freed.takeApply.beginBuild _
      · exact freed.beginBuild _
  · exact freed

/-- The end of the commit that a reset waits for: the engine returns to RUN, or a list is still awaited (R145, R183). -/
theorem endCommit_resetting (p : CommitInHand) (s : State) (resetting : s.engine = .resetting)
    (finishing : s.Finishing) :
    (endCommit p s).Returned ∨ (endCommit p s).engine = .resetting ∧ (endCommit p s).tool.commit = none := by
  obtain ⟨cells, -, capture⟩ := finishing
  rw [endCommit_eq_releaseGrant]
  unfold commitLeft
  dsimp only
  generalize pressed : handlePress p (s.withTool { s.tool with commit := none }) = u
  have update : u.update = s.update := by rw [← pressed, handlePress_eq]; rfl
  have engine : u.engine = .resetting := by rw [← pressed, handlePress_eq]; exact resetting
  have noCommit : u.tool.commit = none := by rw [← pressed, handlePress_eq]; rfl
  have emptied : u.resolver.capture = none := by rw [← pressed, handlePress_eq]; exact capture
  have waits : ∀ c, u.stage ≠ some (.waiting c) := fun c => by
    rw [State.stage, update]
    exact (cells c).1
  rw [applyWaitingDrag_none u waits, if_pos engine]
  rcases settleReset_cases (toolResetEvent u) with ⟨-, lists, commit, e⟩ | e
  · left
    rw [e]
    refine State.Returned.releaseGrant ⟨rfl, lists, commit, ?_, rfl, rfl, rfl, emptied⟩
    dsimp only
    rw [BitVec.getLsbD_or, oneBit_getLsbD _ _ (by decide)]
    simp [AppNotice.bit]
  · right
    rw [e]
    have course := releaseGrant_course (toolResetEvent u) engine waits
    exact ⟨(congrArg Course.engine course).trans engine, (congrArg Course.commit course).trans noCommit⟩

/-! ### The completions of the stages, in their order -/

/-- The place of a stage's completion among those of a reset: a cell applied, fetched, written back, marked. -/
def Stage.place : Stage → Nat
  | .waiting _ => 0
  | .granted _ => 0
  | .applying _ => 1
  | .fetching => 2
  | .writingBack _ _ _ => 3
  | .marking => 4

/-- A reset that still awaits the completion of a list, of a stage past the first n places. -/
structure State.Awaiting (n : Nat) (s : State) : Prop where
  grants : s.GrantLaw
  law : s.UpdateLaw
  resetting : s.engine = .resetting
  commit : s.tool.commit = none
  later : ∀ f, s.update.inFlight = some f → n < f.stage.place

/-- The reset has ended, or awaits a stage past the first n places. -/
def State.EndsPast (n : Nat) (s : State) : Prop := s.Returned ∨ s.Awaiting n

/-- No cell of a reset stands before its op (R96). -/
theorem State.UpdateLaw.place_pos {s : State} (h : s.UpdateLaw) (resetting : s.engine = .resetting) (f : InFlight)
    (flight : s.update.inFlight = some f) : 0 < f.stage.place := by
  have stage : s.stage = some f.stage := by rw [State.stage, flight]; rfl
  have cells := (h.stoppedLaw resetting).cells
  cases e : f.stage with
  | waiting c => exact absurd (e ▸ stage) (cells c).1
  | granted c => exact absurd (e ▸ stage) (cells c).2
  | applying c => exact Nat.one_pos
  | fetching => exact Nat.two_pos
  | writingBack c h w => exact Nat.succ_pos 2
  | marking => exact Nat.succ_pos 3

/-- The completion that is not awaited is no event (log 3). -/
theorem State.EndsPast.skip {n : Nat} {s : State} (h : s.EndsPast n)
    (other : ∀ f, s.update.inFlight = some f → f.stage.place ≠ n + 1) : s.EndsPast (n + 1) :=
  h.imp id fun awaiting => { awaiting with
    later := fun f flight => Nat.lt_of_le_of_ne (awaiting.later f flight) (other f flight).symm }

/-- The completion that the stage awaits is the cell boundary, and with no commit left the engine returns to RUN (R96,
R183). -/
theorem State.Awaiting.atBoundary {n : Nat} {s : State} (h : s.Awaiting n) (busError : Bool)
    (writes : List (Word × Word)) : (atBoundary busError { s with masterWrites := writes }).Returned := by
  obtain ⟨context, drag, log, capture⟩ := (h.law.stoppedLaw h.resetting).cleared h.commit
  refine ⟨if_pos h.commit, rfl, h.commit, ?_, context, drag, log, capture⟩
  show (raised s.appNotices [(busError, .busError), (s.tool.commit.isNone, .resetDone)]).raised.getLsbD 13 = true
  rw [raised_getLsbD _ _ _ _ (by decide), raised_getLsbD _ _ _ _ (by decide), h.commit]
  simp [AppNotice.bit]

/-- RESOLUTION_END ends the commit that a reset waits for, and with no list in flight the reset (R120, R145). -/
theorem resolutionEnds_endsPast (s : State) (grants : s.GrantLaw) (law : s.UpdateLaw) (resetting : s.engine = .resetting) :
    (resolutionEnds s).EndsPast 0 := by
  have awaits : ∀ t, exec .resolutionEnd s = .next t → t.engine = .resetting → t.tool.commit = none → t.EndsPast 0 := by
    intro t step engine commit
    have law' := exec_updateLaw _ s t grants law step
    exact .inr ⟨exec_grantLaw _ s t grants step, law', engine, commit, law'.place_pos engine⟩
  have stopped := law.stoppedLaw resetting
  rcases resolutionEnds_cases s grants with ⟨idle, e⟩ | ⟨r, c, commit, -, button, e⟩ | ⟨r, b, build, -⟩
  · refine awaits _ rfl (by rw [e]; exact resetting) ?_
    rw [e]
    by_contra some_commit
    obtain ⟨c, commit⟩ := Option.ne_none_iff_exists'.1 some_commit
    have begun : s.begun .commit = true := by
      simp [State.begun, commit, (stopped.commit c commit).1]
    have resolution := grants.resolution
    rw [idle, begun] at resolution
    cases resolution
  · obtain ⟨u, ends, -, engine, finishing⟩ := finishCommit_ends c r s button
    have done := endCommit_resetting c u (engine.trans resetting)
      (finishing stopped (stopped.commit c commit).2.2)
    rw [← ends, ← e] at done
    exact done.elim .inl fun ⟨engine, commit⟩ => awaits _ rfl engine commit
  · cases build.symm.trans stopped.build

/-- CELL_APPLICATION leads an applied cell on to its write-back (R85). -/
theorem cellApplies_endsPast (s : State) (h : s.EndsPast 0) : (cellApplies s).EndsPast 1 := by
  by_cases applying : ∃ f c, s.update.inFlight = some f ∧ f.stage = .applying c
  · obtain ⟨f, c, flight, stage⟩ := applying
    rcases h with returned | awaiting
    · cases returned.lists.symm.trans flight
    · right
      have begun : s.begun .update = true := by
        simp [State.begun, State.stage, flight, stage, Stage.isApplying]
      have applied := cellApplies_applying s f c flight stage (awaiting.grants.begun _ begun)
      have course : (cellApplies s).course = (startWriteBack f c (s.table.applyOp c).result
          (s.table.applyOp c).handleWord (putTable (s.table.applyOp c).table s)).course := by
        rw [applied]
        exact releaseGrant_course _ awaiting.resetting fun _ e => nomatch e
      refine ⟨exec_grantLaw .cellApplication s _ awaiting.grants rfl,
        exec_updateLaw .cellApplication s _ awaiting.grants awaiting.law rfl,
        (congrArg Course.engine course).trans awaiting.resetting, (congrArg Course.commit course).trans awaiting.commit,
        fun g again => ?_⟩
      cases (congrArg Course.inFlight course).symm.trans again
      exact (by decide : 1 < 3)
  · have still := cellApplies_other s fun f c flight stage => applying ⟨f, c, flight, stage⟩
    rw [still]
    refine h.skip fun f flight place => ?_
    cases stage : f.stage with
    | applying c => exact applying ⟨f, c, flight, stage⟩
    | _ => rw [stage] at place; cases place

theorem fetchCompletes_endsPast (reply : FetchReply) (s : State) (h : s.EndsPast 1) :
    (fetchCompletes reply s).EndsPast 2 := by
  by_cases fetching : ∃ f, s.update.inFlight = some f ∧ f.stage = .fetching
  · obtain ⟨f, flight, stage⟩ := fetching
    rcases h with returned | awaiting
    · cases returned.lists.symm.trans flight
    · left
      rw [fetchCompletes_resetting reply s f flight stage awaiting.resetting]
      exact awaiting.atBoundary false s.masterWrites
  · rw [fetchCompletes_other reply s fun f flight stage => fetching ⟨f, flight, stage⟩]
    refine h.skip fun f flight place => ?_
    cases stage : f.stage with
    | fetching => exact fetching ⟨f, flight, stage⟩
    | _ => rw [stage] at place; cases place

theorem writeBackCompletes_endsPast (e1 e2 : Bool) (s : State) (h : s.EndsPast 2) :
    (writeBackCompletes e1 e2 s).EndsPast 3 := by
  by_cases writing : ∃ f c w v, s.update.inFlight = some f ∧ f.stage = .writingBack c w v
  · obtain ⟨f, c, w, v, flight, stage⟩ := writing
    rcases h with returned | awaiting
    · cases returned.lists.symm.trans flight
    · left
      rw [writeBackCompletes_resetting e1 e2 s f c w v flight stage awaiting.resetting]
      exact awaiting.atBoundary _ _
  · rw [writeBackCompletes_other e1 e2 s fun f c w v flight stage => writing ⟨f, c, w, v, flight, stage⟩]
    refine h.skip fun f flight place => ?_
    cases stage : f.stage with
    | writingBack c w v => exact writing ⟨f, c, w, v, flight, stage⟩
    | _ => rw [stage] at place; cases place

theorem markingCompletes_endsPast (busError : Bool) (s : State) (h : s.EndsPast 3) :
    (markingCompletes busError s).EndsPast 4 := by
  by_cases marking : ∃ f, s.update.inFlight = some f ∧ f.stage = .marking
  · obtain ⟨f, flight, stage⟩ := marking
    rcases h with returned | awaiting
    · cases returned.lists.symm.trans flight
    · left
      rw [markingCompletes_resetting busError s f flight stage awaiting.resetting]
      exact awaiting.atBoundary _ _
  · rw [markingCompletes_other busError s fun f flight stage => marking ⟨f, flight, stage⟩]
    refine h.skip fun f flight place => ?_
    cases stage : f.stage with
    | marking => exact marking ⟨f, flight, stage⟩
    | _ => rw [stage] at place; cases place

/-- Past the last place nothing is left to await. -/
theorem State.EndsPast.returned {s : State} (h : s.EndsPast 4) : s.Returned := by
  rcases h with returned | awaiting
  · exact returned
  · rcases awaiting.law.resetting awaiting.resetting with flight | commit
    · obtain ⟨f, flight⟩ := Option.isSome_iff_exists.1 flight
      have later := awaiting.later f flight
      cases e : f.stage <;> rw [e] at later <;> simp [Stage.place] at later
    · rw [awaiting.commit] at commit
      cases commit

end Sys2Proof.Machine

namespace Sys2Proof.Claims

open Sys2Proof.Machine

/-- Settles O15: the commit that runs on ends first, then the list's stage completes at one of the four places. -/
theorem everyResetReturnsToRun : Obligations.EveryResetReturnsToRun := by
  intro s reply e1 e2 e3 grants law resetting
  have ended := markingCompletes_endsPast e3 _ (writeBackCompletes_endsPast e1 e2 _
    (fetchCompletes_endsPast reply _ (cellApplies_endsPast _ (resolutionEnds_endsPast s grants law resetting))))
  obtain ⟨run, lists, commit, notice, context, drag, log, capture⟩ := ended.returned
  exact ⟨_, rfl, run, lists, commit, notice, context, drag, log, capture⟩

end Sys2Proof.Claims

/-! ## Writes by location (R179 to R181, R184, R195, R196) -/

namespace Sys2Proof.Machine

open Sys2Proof.Claims

/-! ### INDEX after a DATA write (R179) -/

theorem ofNat_toNat_succ (index : Half) : BitVec.ofNat 16 (index.toNat + 1) = index + 1 := by
  apply BitVec.eq_of_toNat_eq
  rw [BitVec.toNat_ofNat, BitVec.toNat_add]
  rfl

theorem accessed_app_advances (s t : State) (passes : holds .app s.ports.appIndex.toNat = false) :
    accessed .app s.ports.appIndex.toNat t = { t with ports := { t.ports with appIndex := s.ports.appIndex + 1 } } := by
  rw [accessed, indexAfter, passes, if_neg Bool.false_ne_true, ofNat_toNat_succ]
  rfl

theorem accessed_disp_advances (s t : State) (passes : holds .disp s.ports.dispIndex.toNat = false) :
    accessed .disp s.ports.dispIndex.toNat t =
      { t with ports := { t.ports with dispIndex := s.ports.dispIndex + 1 } } := by
  rw [accessed, indexAfter, passes, if_neg Bool.false_ne_true, ofNat_toNat_succ]
  rfl

theorem exec_writeDispData (v : Word) (s : State) : exec (.registerWrite .disp .data v) s =
    .next (accessed .disp s.ports.dispIndex.toNat (writeDisp s.ports.dispIndex.toNat v s)) := rfl

/-! ### The staged settings by location (R184, R186) -/

/-- The places of a block of settings, as the statements list them (R186). -/
def settingNumbers : List Nat :=
  List.range 0x18 ++ (List.range' 0x20 12 ++ (List.range' 0x30 7 ++ (List.range' 0x38 7 ++ List.range' 0x18 4)))

theorem settingPlaces_numbers (st : Settings) : (settingPlaces st ++ gridHalves st).map Prod.fst = settingNumbers := rfl

theorem settingNumbers_le : ∀ n ∈ settingNumbers, n ≤ 0x3E := by decide

/-- A place that the map does not give ignores the write (R179). -/
theorem Settings.write_other (st : Settings) (n : Nat) (v : Half) (other : n ∉ settingNumbers) : st.write n v = st := by
  unfold Settings.write
  split
  case h_55 => rfl
  all_goals exact absurd other (by decide)

/-- The places of a block with one of them written. -/
def writtenAt (n : Nat) (v : Half) (places : List (Nat × Half)) : List (Nat × Half) :=
  places.map fun g => if g.1 = n then (g.1, v) else g

/-- A write changes the one place it names (R184). -/
def Settings.WritesAt (st : Settings) (v : Half) (n : Nat) : Prop :=
  settingPlaces (st.write n v) ++ gridHalves (st.write n v) = writtenAt n v (settingPlaces st ++ gridHalves st)

theorem Settings.write_plain (st : Settings) (v : Half) : ∀ n ∈ List.range 0x18, st.WritesAt v n := by
  intro n mem
  fin_cases mem <;> rfl

theorem filters_eq (filters : Vector ClassFilter 4) : ∃ a b c d, filters = #v[a, b, c, d] := by
  refine ⟨filters[0], filters[1], filters[2], filters[3], ?_⟩
  ext i h
  all_goals interval_cases i <;> rfl

theorem Settings.write_filter (st : Settings) (v : Half) : ∀ n ∈ List.range' 0x20 12, st.WritesAt v n := by
  obtain ⟨a, b, c, d, filters⟩ := filters_eq st.filters
  intro n mem
  cases st
  cases filters
  fin_cases mem <;> rfl

theorem Settings.write_windowA (st : Settings) (v : Half) : ∀ n ∈ List.range' 0x30 7, st.WritesAt v n := by
  intro n mem
  fin_cases mem <;> rfl

theorem Settings.write_windowB (st : Settings) (v : Half) : ∀ n ∈ List.range' 0x38 7, st.WritesAt v n := by
  intro n mem
  fin_cases mem <;> rfl

/-- The halves of a word made of two (R180). -/
theorem append_halves (high low : Half) :
    (high ++ low : BitVec (16 + 16)).extractLsb' 0 16 = low ∧ (high ++ low : BitVec (16 + 16)).extractLsb' 16 16 = high := by
  refine ⟨?_, ?_⟩ <;>
  · apply BitVec.eq_of_getLsbD_eq
    intro i small
    rw [BitVec.getLsbD_extractLsb', BitVec.getLsbD_append]
    simp [small]

theorem withLow_halves (w : Word) (v : Half) :
    (withLow w v).extractLsb' 0 16 = v ∧ (withLow w v).extractLsb' 16 16 = w.extractLsb' 16 16 := append_halves _ v

theorem withHigh_halves (w : Word) (v : Half) :
    (withHigh w v).extractLsb' 0 16 = w.extractLsb' 0 16 ∧ (withHigh w v).extractLsb' 16 16 = v := append_halves v _

/-- A half of a grid origin is written, and the other half stays (R180, R184). -/
theorem Settings.write_gridHalf (st : Settings) (v : Half) : ∀ n ∈ List.range' 0x18 4, st.WritesAt v n := by
  obtain ⟨xLow, xLow'⟩ := withLow_halves st.gridX v
  obtain ⟨xHigh, xHigh'⟩ := withHigh_halves st.gridX v
  obtain ⟨yLow, yLow'⟩ := withLow_halves st.gridY v
  obtain ⟨yHigh, yHigh'⟩ := withHigh_halves st.gridY v
  intro n mem
  unfold Settings.WritesAt gridHalves
  fin_cases mem
  · show _ ++ [(0x18, (withLow st.gridX v).extractLsb' 0 16), (0x19, (withLow st.gridX v).extractLsb' 16 16), _, _] = _
    rw [xLow, xLow']
    rfl
  · show _ ++ [(0x18, (withHigh st.gridX v).extractLsb' 0 16), (0x19, (withHigh st.gridX v).extractLsb' 16 16), _, _] = _
    rw [xHigh, xHigh']
    rfl
  · show _ ++ [_, _, (0x1A, (withLow st.gridY v).extractLsb' 0 16), (0x1B, (withLow st.gridY v).extractLsb' 16 16)] = _
    rw [yLow, yLow']
    rfl
  · show _ ++ [_, _, (0x1A, (withHigh st.gridY v).extractLsb' 0 16), (0x1B, (withHigh st.gridY v).extractLsb' 16 16)] = _
    rw [yHigh, yHigh']
    rfl

theorem Settings.write_writesAt (st : Settings) (v : Half) (n : Nat) (mem : n ∈ settingNumbers) : st.WritesAt v n := by
  unfold settingNumbers at mem
  simp only [List.mem_append] at mem
  rcases mem with plain | filter | windowA | windowB | grid
  · exact st.write_plain v n plain
  · exact st.write_filter v n filter
  · exact st.write_windowA v n windowA
  · exact st.write_windowB v n windowB
  · exact st.write_gridHalf v n grid

/-! ### The two windows (R195, R196) -/

/-- A DATA write of the application window at the location that INDEX names (R179). -/
theorem exec_writeApp_at (v : Word) (s : State) (n : Nat) (index : s.ports.appIndex.toNat = n) :
    exec (.registerWrite .app .data v) s = .next (accessed .app n (writeApp n v s)) := by
  rw [exec_writeAppData, index]

theorem exec_writeDisp_at (v : Word) (s : State) (n : Nat) (index : s.ports.dispIndex.toNat = n) :
    exec (.registerWrite .disp .data v) s = .next (accessed .disp n (writeDisp n v s)) := by
  rw [exec_writeDispData, index]

/-- A DATA write at a location of the application window that does not hold INDEX (R179). -/
theorem exec_writeApp_advances (v : Word) (s : State) (passes : holds .app s.ports.appIndex.toNat = false) :
    exec (.registerWrite .app .data v) s =
      .next { writeApp s.ports.appIndex.toNat v s with
        ports := { (writeApp s.ports.appIndex.toNat v s).ports with appIndex := s.ports.appIndex + 1 } } := by
  rw [exec_writeAppData, accessed_app_advances s _ passes]

theorem holds_app (n : Nat) (other : n ≠ 0 ∧ n ≠ 0x11 ∧ n ≠ 0x5D) : holds .app n = false := by
  simp [holds, locCommand, locSubmitHi, locCommitPop, other]

theorem holds_disp (n : Nat) (other : n ≠ 8 ∧ n ≠ 9) : holds .disp n = false := by
  simp [holds, locFrameStart, locStream, other]

/-- Besides the locations that have a command of their own, a write reaches the staged block alone (R181, R195). -/
theorem writeApp_uncommanded (n : Nat) (v : Word) (s : State)
    (noCommand : n ∉ [0x00, 0x01, 0x03, 0x04, 0x10, 0x11, 0x5D]) (noPick : ¬ (0x60 ≤ n ∧ n ≤ 0x69)) :
    writeApp n v s =
      if 0x80 ≤ n ∧ n ≤ 0xBE then { s with staged := s.staged.write (n - 0x80) (lowHalf v) } else s := by
  simp only [List.mem_cons, List.not_mem_nil, or_false, not_or] at noCommand
  obtain ⟨command, raw, set, clear, low, high, pop⟩ := noCommand
  unfold writeApp
  rw [if_neg (show ¬ n = locCommand from command), if_neg (show ¬ n = locAppRaw from raw),
    if_neg (show ¬ n = locAppEnableSet from set), if_neg (show ¬ n = locAppEnableClear from clear),
    if_neg (show ¬ n = locSubmitLo from low), if_neg (show ¬ n = locSubmitHi from high),
    if_neg (show ¬ n = locCommitPop from pop), if_neg (show ¬ (locPick0 ≤ n ∧ n ≤ 0x69) from noPick)]

theorem writeApp_staged (k : Nat) (v : Word) (s : State) (inBlock : k ≤ 0x3E) :
    writeApp (0x80 + k) v s = { s with staged := s.staged.write k (lowHalf v) } := by
  rw [writeApp_uncommanded _ v s (by simp only [List.mem_cons, List.not_mem_nil, or_false]; omega) (by omega),
    if_pos (by omega), Nat.add_sub_cancel_left]

/-- A write to a read-only location or outside the map changes nothing besides INDEX (R181, R195). -/
theorem writeApp_ignored (n : Nat) (v : Word) (s : State) (noCommand : n ∉ [0x00, 0x01, 0x03, 0x04, 0x10, 0x11, 0x5D])
    (noPick : ¬ (0x60 ≤ n ∧ n ≤ 0x69)) (noSetting : ∀ k ∈ settingNumbers, n ≠ 0x80 + k) : writeApp n v s = s := by
  rw [writeApp_uncommanded n v s noCommand noPick]
  split
  · rename_i block
    have unmapped : n - 0x80 ∉ settingNumbers := fun mem => noSetting _ mem (by omega)
    rw [Settings.write_other _ _ _ unmapped]
  · rfl

theorem writeDisp_ignored (d : Nat) (v : Word) (s : State) (noCommand : d ∉ [0x00, 0x02, 0x03, 0x08, 0x09, 0x0A])
    (noView : ¬ (0x10 ≤ d ∧ d ≤ 0x14)) (noPick : ¬ (0x20 ≤ d ∧ d ≤ 0x27)) : writeDisp d v s = s := by
  simp only [List.mem_cons, List.not_mem_nil, or_false, not_or] at noCommand
  obtain ⟨raw, set, clear, start, -, rewind⟩ := noCommand
  unfold writeDisp
  rw [if_neg (show ¬ d = locDispRaw from raw), if_neg (show ¬ d = locDispEnableSet from set),
    if_neg (show ¬ d = locDispEnableClear from clear), if_neg (show ¬ d = locFrameStart from start),
    if_neg (show ¬ d = locStreamRewind from rewind), if_neg (show ¬ (locStagedView ≤ d ∧ d ≤ 0x14) from noView),
    if_neg (show ¬ (locPick1 ≤ d ∧ d ≤ 0x27) from noPick)]

/-- The inputs of pick slot 0 have a row of their own (R174, R195). -/
theorem exec_writePick0 (v : Word) (s : State) (k : Nat) (input : PickInput) (place : (pickInputs .pick0)[k]? = some input)
    (index : s.ports.appIndex.toNat = pickFirst .pick0 + k) :
    exec (.registerWrite .app .data v) s = exec (.pickBlockedWrite .pick0 input v) s := by
  obtain ⟨inMap, -⟩ := List.getElem?_eq_some_iff.1 place
  have small : k < 10 := inMap
  interval_cases k <;> cases place <;> exact exec_writeApp_at v s _ index

theorem exec_writePick1 (v : Word) (s : State) (k : Nat) (input : PickInput) (place : (pickInputs .pick1)[k]? = some input)
    (index : s.ports.dispIndex.toNat = pickFirst .pick1 + k) :
    exec (.registerWrite .disp .data v) s = exec (.pickBlockedWrite .pick1 input v) s := by
  obtain ⟨inMap, -⟩ := List.getElem?_eq_some_iff.1 place
  have small : k < 8 := inMap
  interval_cases k <;> cases place <;> exact exec_writeDisp_at v s _ index

theorem exec_writeView (v : Word) (s : State) (k : Nat) (field : ViewField)
    (place : [ViewField.ox, .oy, .scale, .width, .height][k]? = some field)
    (index : s.ports.dispIndex.toNat = 0x10 + k) :
    exec (.registerWrite .disp .data v) s = exec (.stagedViewWrite field v) s := by
  obtain ⟨inMap, -⟩ := List.getElem?_eq_some_iff.1 place
  have small : k < 5 := inMap
  interval_cases k <;> cases place <;> exact exec_writeDisp_at v s _ index

/-- A location that holds INDEX and has no effect leaves the state (R179, R181). -/
theorem exec_write_stream (v : Word) (s : State) (index : s.ports.dispIndex.toNat = 9) :
    exec (.registerWrite .disp .data v) s = .next s := by
  have at_stream : s.ports.dispIndex = 9 := BitVec.eq_of_toNat_eq index
  have kept : ({ s.ports with dispIndex := 9 } : Ports) = s.ports := by rw [← at_stream]
  rw [exec_writeDisp_at v s 9 index]
  show Host.Outcome.next { s with ports := { s.ports with dispIndex := 9 } } = _
  rw [kept]

end Sys2Proof.Machine

namespace Sys2Proof.Claims

open Sys2Proof.Machine

/-- Settles O26, by the location that INDEX names. -/
theorem registerWriteStoresOrIsIgnored : Obligations.RegisterWriteStoresOrIsIgnored := by
  intro s v low n d toApp toDisp passed
  have places := settingPlaces_numbers s.staged
  refine ⟨rfl, rfl, exec_writeApp_at v s 0x01, exec_writeApp_at v s 0x03, exec_writeApp_at v s 0x04, fun index => ?_,
    exec_writeApp_at v s 0x11, exec_writeApp_at v s 0x5D, exec_writePick0 v s, fun e mem index => ?_,
    fun noCommand noPick noSetting => ?_, exec_writeDisp_at v s 0x00, exec_writeDisp_at v s 0x02,
    exec_writeDisp_at v s 0x03, exec_writeDisp_at v s 0x08, exec_write_stream v s, exec_writeDisp_at v s 0x0A,
    exec_writeView v s, exec_writePick1 v s, fun noCommand noView noPick => ?_⟩
  · have at_low : s.ports.appIndex = 0x10 := BitVec.eq_of_toNat_eq index
    refine (exec_writeApp_at v s _ index).trans ?_
    simp only [passed, at_low]
    rfl
  · have mapped : e.1 ∈ settingNumbers := places ▸ List.mem_map_of_mem mem
    have inBlock : e.1 ≤ 0x3E := settingNumbers_le _ mapped
    have staged := writeApp_staged e.1 v s inBlock
    rw [← index] at staged
    refine ⟨_, ?_, s.staged.write_writesAt low e.1 mapped⟩
    refine (exec_writeApp_advances v s (holds_app _ (by omega))).trans ?_
    rw [staged]
    rfl
  · have ignored := writeApp_ignored n v s noCommand noPick fun k mem => by
      rw [← places] at mem
      obtain ⟨e, inMap, is⟩ := List.mem_map.1 mem
      rw [← is]
      exact noSetting e inMap
    simp only [List.mem_cons, List.not_mem_nil, or_false, not_or] at noCommand
    obtain ⟨command, -, -, -, -, high, pop⟩ := noCommand
    rw [show toApp = _ from exec_writeApp_advances v s (holds_app _ ⟨command, high, pop⟩), ignored]
  · have ignored := writeDisp_ignored d v s noCommand noView noPick
    simp only [List.mem_cons, List.not_mem_nil, or_false, not_or] at noCommand
    obtain ⟨-, -, -, start, stream, -⟩ := noCommand
    rw [show toDisp = _ from exec_writeDispData v s, ignored,
      accessed_disp_advances s s (holds_disp _ ⟨start, stream⟩)]

end Sys2Proof.Claims

/-! ## The candidate set and the candidate choice (R103 to R108) -/

namespace Sys2Proof.Machine

open Sys2Proof.Claims

/-- The four keys of the candidate choice as one key, the least of which is the best (R108). -/
def Candidate.key (a : Candidate) : ℕᵒᵈ ×ₗ ℤ ×ₗ SlotNo ×ₗ ℕ :=
  toLex (OrderDual.toDual a.ref.feature.priority, toLex (a.d2, toLex (a.ref.handle.slot, a.ref.index.toNat)))

/-- A candidate is preferred exactly when its key is the smaller (R108). -/
theorem Candidate.key_lt_iff (a b : Candidate) : a.key < b.key ↔ Preferred a b := by
  simp only [Candidate.key, Preferred, Prod.Lex.toLex_lt_toLex, OrderDual.toDual_lt_toDual,
    OrderDual.toDual_inj]

/-- The model compares two candidates by their keys (R108). -/
theorem Candidate.better_iff (a b : Candidate) : a.better b = true ↔ a.key < b.key := by
  rw [Candidate.key_lt_iff]
  unfold Candidate.better Preferred
  by_cases priority : a.ref.feature.priority = b.ref.feature.priority
  · by_cases distance : a.d2 = b.d2
    · by_cases slot : a.ref.handle.slot = b.ref.handle.slot
      · simp [priority, distance, slot, BitVec.lt_def]
      · simp [priority, distance, slot]
    · simp [priority, distance]
  · simp [priority]

theorem bestCandidate_eq_none_iff (l : List Candidate) : bestCandidate l = none ↔ l = [] := by
  cases l with
  | nil => exact iff_of_true rfl rfl
  | cons c rest =>
    refine iff_of_false (fun h => ?_) (List.cons_ne_nil _ _)
    unfold bestCandidate at h
    split at h
    · cases h
    · split at h <;> cases h

/-- The best of a set of candidates has the least key of the set (R108). -/
theorem bestCandidate_key_le (l : List Candidate) (b : Candidate) (h : bestCandidate l = some b) :
    ∀ c ∈ l, b.key ≤ c.key := by
  induction l generalizing b with
  | nil => cases h
  | cons a rest ih =>
    rw [List.forall_mem_cons]
    unfold bestCandidate at h
    split at h
    next empty =>
      cases h
      obtain rfl := (bestCandidate_eq_none_iff rest).1 empty
      exact ⟨le_rfl, fun c mem => nomatch mem⟩
    next d best =>
      split at h <;> cases h
      next better => exact ⟨((b.better_iff a).1 better).le, ih b best⟩
      next worse =>
        have least : a.key ≤ d.key := not_lt.1 fun less => worse ((d.better_iff a).2 less)
        exact ⟨le_rfl, fun c mem => least.trans (ih d best c mem)⟩

/-- The candidates of one slot are the features of its eligible target that are on and in reach (R103 to R107). -/
theorem mem_slotCandidates (t : Table) (c : Point) (radius : Int) (ok : Half → Bool) (on : Feature → Bool)
    (n : SlotNo) (x : Candidate) :
    x ∈ slotCandidates t c radius ok on n ↔
      ∃ g fp, t.target n = some g ∧ ok g.tag = true ∧ fp ∈ g.shape.features c ∧ on fp.feature = true ∧
        dist2 fp.point c ≤ radius * radius ∧
        x = ⟨⟨t.handleAt n, fp.feature, fp.index⟩, fp.point, dist2 fp.point c⟩ := by
  unfold slotCandidates
  split
  next free => simp [free]
  next g occupied =>
    split
    next eligible =>
      simp only [List.mem_map, List.mem_filter, Bool.and_eq_true, within, decide_eq_true_eq, occupied,
        Option.some.injEq, exists_and_left, exists_eq_left', eligible, true_and]
      constructor
      · rintro ⟨fp, ⟨mem, isOn, near⟩, rfl⟩
        exact ⟨fp, mem, isOn, near, rfl⟩
      · rintro ⟨fp, mem, isOn, near, rfl⟩
        exact ⟨fp, ⟨mem, isOn, near⟩, rfl⟩
    next ineligible => simp [occupied, ineligible]

/-! ## Features, eligibility and the capture (R103 to R105, R111, R112) -/

/-- No target has two features of one kind and index, so a feature's identity finds its point (R105, R111). -/
theorem Shape.featureAt_eq_some_iff (shape : Shape) (f : Feature) (index : BitVec 2) (c p : Point) :
    shape.featureAt f index c = some p ↔ (⟨f, index, p⟩ : FeaturePoint) ∈ shape.features c := by
  refine ⟨shape.featureAt_mem f index c p, fun mem => ?_⟩
  cases shape <;> simp only [Shape.features, List.mem_cons, FeaturePoint.mk.injEq, List.not_mem_nil, or_false] at mem
  case point => obtain ⟨rfl, rfl, rfl⟩ := mem; rfl
  case segment => rcases mem with ⟨rfl, rfl, rfl⟩ | ⟨rfl, rfl, rfl⟩ | ⟨rfl, rfl, rfl⟩ | ⟨rfl, rfl, rfl⟩ <;> rfl
  case circle =>
    rcases mem with ⟨rfl, rfl, rfl⟩ | ⟨rfl, rfl, rfl⟩ | ⟨rfl, rfl, rfl⟩ | ⟨rfl, rfl, rfl⟩ | ⟨rfl, rfl, rfl⟩ <;> rfl

/-- A tag is eligible when an enabled filter accepts it (R103). -/
theorem eligible_iff (filters : Vector ClassFilter 4) (tag : Half) :
    eligible filters tag = true ↔ ∃ n : Fin 4, (filters[n]).enable ≠ 0 ∧
      tag &&& (filters[n]).mask = (filters[n]).matchTag &&& (filters[n]).mask := by
  simp only [eligible, tagMatches, List.any_eq_true, Vector.mem_toList_iff, Vector.mem_iff_getElem, Bool.and_eq_true,
    bne_iff_ne, beq_iff_eq]
  constructor
  · rintro ⟨f, ⟨n, small, rfl⟩, accepts⟩
    exact ⟨⟨n, small⟩, accepts⟩
  · rintro ⟨n, accepts⟩
    exact ⟨filters[n], ⟨n, n.isLt, rfl⟩, accepts⟩

/-- A handle names the target of its slot while its tag is the slot's reuse tag (R56). -/
theorem Table.named_eq_some_iff (t : Table) (h : Handle) (g : Target) :
    t.named h = some g ↔ t.target h.slot = some g ∧ (t.slots[h.slot]).reuse = h.tag := by
  unfold Table.named
  split
  next fresh => exact (and_iff_left fresh).symm
  next stale => exact iff_of_false nofun fun ⟨_, fresh⟩ => stale fresh

/-- The aperture at the view's scale is the display length's ceiling (R10, R121). -/
theorem ResolutionInputs.apw_eq (i : ResolutionInputs) :
    i.apw = (i.settings.aperture.toNat * i.scale + 255) / 256 := by
  rw [ResolutionInputs.apw, worldLength, ceilDiv, half, add_sub_assoc]
  rfl

/-- A capture is valid exactly when the five tests pass (R111). -/
theorem validCapture_eq_some_iff (i : ResolutionInputs) (t : Table) (ref : FeatureRef) (p : Point) :
    validCapture i t = some (ref, p) ↔ i.capture = some ref ∧
      ∃ g, t.named ref.handle = some g ∧ g.shape.featureAt ref.feature ref.index i.c = some p ∧
        eligible i.settings.filters g.tag = true ∧ featureOn i.settings.enables ref.feature = true ∧
        within p i.c (i.apw * half i.settings.release) = true := by
  constructor
  · intro valid
    unfold validCapture at valid
    split at valid
    next => cases valid
    next ref' held =>
      split at valid
      next => cases valid
      next g named =>
        split at valid
        next => cases valid
        next q found =>
          split at valid
          next passed =>
            cases valid
            simp only [Bool.and_eq_true] at passed
            obtain ⟨⟨accepted, isOn⟩, near⟩ := passed
            exact ⟨held, g, named, found, accepted, isOn, near⟩
          next => cases valid
  · rintro ⟨held, g, named, found, accepted, isOn, near⟩
    simp [validCapture, held, named, found, accepted, isOn, near]

/-- A valid capture gives way to a best candidate of higher priority (R112). -/
theorem objectSnap_released (i : ResolutionInputs) (t : Table) (ref : FeatureRef) (p : Point) (b : Candidate)
    (valid : validCapture i t = some (ref, p)) (best : resolutionBest i t = some b)
    (higher : ref.feature.priority < b.ref.feature.priority) :
    objectSnap i t = some (objectResult b.ref b.point false) := by
  simp [objectSnap, valid, best, higher]

/-- A valid capture holds when no best candidate has higher priority; CAPTURED tells whether it is not itself the best
candidate (R112). -/
theorem objectSnap_held (i : ResolutionInputs) (t : Table) (ref : FeatureRef) (p : Point)
    (valid : validCapture i t = some (ref, p))
    (noHigher : ∀ b, resolutionBest i t = some b → b.ref.feature.priority ≤ ref.feature.priority) :
    objectSnap i t = some (objectResult ref p ((resolutionBest i t).map Candidate.ref != some ref)) := by
  cases best : resolutionBest i t with
  | none =>
    simp only [objectSnap, valid, best]
    rfl
  | some b =>
    simp only [objectSnap, valid, best, if_neg (not_lt.2 (noHigher b best))]
    rfl

/-- Without a valid capture object snap yields the best candidate, or nothing (R112). -/
theorem objectSnap_uncaptured (i : ResolutionInputs) (t : Table) (invalid : validCapture i t = none) :
    objectSnap i t = (resolutionBest i t).map fun b => objectResult b.ref b.point false := by
  cases best : resolutionBest i t <;> simp [objectSnap, invalid, best]

/-- In NORMAL mode the result is what object snap yields, or the result without an object feature (R102). -/
theorem resolve_normal (i : ResolutionInputs) (t : Table) (normal : i.mode = .normal) :
    resolve i t = (objectSnap i t).getD (freeResult i) := by
  simp [resolve, normal]

end Sys2Proof.Machine

namespace Sys2Proof.Claims

open Sys2Proof.Machine

/-- Settles O40: the choice takes the least of the candidates' keys. -/
theorem candidateChoiceFollowsTheKeys : Obligations.CandidateChoiceFollowsTheKeys := by
  refine ⟨fun l => ⟨bestCandidate_eq_none_iff l, fun b best => ⟨bestCandidate_mem l b best, fun c mem preferred => ?_⟩⟩,
    fun t c radius ok on x => ?_⟩
  · exact absurd ((c.key_lt_iff b).2 preferred) (not_lt.2 (bestCandidate_key_le l b best c mem))
  · simp only [candidates, List.mem_flatMap, mem_slotCandidates]
    constructor
    · rintro ⟨n, gathered, g, fp, isCandidate⟩
      exact ⟨n, g, fp, gathered, isCandidate⟩
    · rintro ⟨n, g, fp, gathered, isCandidate⟩
      exact ⟨n, gathered, g, fp, isCandidate⟩

/-- Settles O41, by whether the capture is valid and whether the best candidate has higher priority. -/
theorem objectSnapHoldsTheCapture : Obligations.ObjectSnapHoldsTheCapture := by
  refine ⟨fun p c => rfl, fun a b c => rfl, fun o c r => rfl, by decide, eligible_iff, fun enables => ?_,
    fun i t => ?_⟩
  · simp only [List.forall_mem_cons, List.not_mem_nil, false_implies, implies_true, and_true]
    exact ⟨rfl, rfl, rfl, rfl, rfl, rfl, rfl⟩
  rw [← i.apw_eq]
  refine ⟨rfl, fun ref p => ?_, fun normal r snap => ?_, fun normal snap => ?_, fun ref p valid => ?_,
    objectSnap_uncaptured i t⟩
  · simp only [validCapture_eq_some_iff, Table.named_eq_some_iff, Shape.featureAt_eq_some_iff, within,
      decide_eq_true_eq, and_assoc]
    rfl
  · rw [resolve_normal i t normal, snap, Option.getD_some]
  · rw [resolve_normal i t normal, snap, Option.getD_none]
    rfl
  · by_cases higher : ∃ b, resolutionBest i t = some b ∧ ref.feature.priority < b.ref.feature.priority
    · obtain ⟨b, best, higher⟩ := higher
      refine ⟨_, objectSnap_released i t ref p b valid best higher, fun b' best' _ => ?_, fun noHigher => ?_⟩
      · cases best.symm.trans best'
        rfl
      · exact absurd higher (not_lt.2 (noHigher b best))
    · have noHigher : ∀ b, resolutionBest i t = some b → b.ref.feature.priority ≤ ref.feature.priority :=
        fun b best => not_lt.1 fun less => higher ⟨b, best, less⟩
      refine ⟨_, objectSnap_held i t ref p valid noHigher, fun b best less => ?_, fun _ =>
        ⟨rfl, rfl, rfl, rfl, rfl, by simp only [objectResult, bne_eq_false_iff_eq]⟩⟩
      exact absurd less (not_lt.2 (noHigher b best))

end Sys2Proof.Claims

/-! ## What the laws of tool unit, commit log and link receiver speak of (R28, R34, R39, R43, R123, R125, R142) -/

namespace Sys2Proof.Machine

/-- The law of a tool context under a tool (R123). -/
structure ToolContext.Law (ctx : ToolContext) (tool : Tool) : Prop where
  anchors : (ctx.count = 0 ↔ ctx.first = none) ∧ (ctx.count = 0 ↔ ctx.last = none)
  still : tool = .none ∨ tool = .move → ctx.count = 0
  twoPoint : tool = .line ∨ tool = .rect ∨ tool = .circle → ctx.count.toNat ≤ 1

/-- The law of a drag figure (R125). -/
structure Drag.Law (d : Drag) : Prop where
  figure : d.figure.length ≤ Config.dragCap
  base : d.base = none → d.figure = []

/-- The law of the commit log, with the room of a commit past its refusal test (R128, R142). -/
structure ToolUnit.LogLaw (t : ToolUnit) : Prop where
  cap : t.log.length ≤ Config.commitLogCap
  room : (t.commit.map CommitInHand.resolving).getD false = true → t.log.length < Config.commitLogCap
  consecutive : sequenceEndsAt t.sequence t.log

/-- The law of a link receiver with an active device (R28, R34, R39, R43). -/
structure Link.Law (l : Link) (device : Fin 8) : Prop where
  held : ∀ bytes t, l.assembler = .body bytes t → 1 ≤ bytes.length ∧ bytes.length ≤ 6
  run : l.run.toNat < Config.recoveryRun ∧ (l.state ≠ .offline → l.run = 0)
  valid : (l.condition = .inside → l.fValid = true) ∧ (l.condition = .none → l.fValid = false)
  device : l.condition ≠ .none → l.presence[device].isPresent = true
  queue : l.queue.length ≤ Config.buttonQueueCap ∧ ∀ e ∈ l.queue, e.buttons ≠ 0

theorem State.toolLaw_iff (s : State) :
    s.ToolLaw ↔ s.tool.context.Law s.active.toolInForce ∧ s.tool.drag.Law :=
  ⟨fun h => ⟨⟨h.anchors, h.still, h.twoPoint⟩, ⟨h.figure, h.base⟩⟩,
    fun ⟨c, d⟩ => ⟨c.anchors, c.still, c.twoPoint, d.figure, d.base⟩⟩

theorem State.logLaw_iff (s : State) : s.LogLaw ↔ s.tool.LogLaw :=
  ⟨fun h => ⟨h.cap, h.room, h.consecutive⟩, fun h => ⟨h.cap, h.room, h.consecutive⟩⟩

theorem State.linkLaw_iff (s : State) : s.LinkLaw ↔ s.link.Law s.active.device :=
  ⟨fun h => ⟨h.held, h.run, h.valid, h.device, h.queue⟩, fun h => ⟨h.held, h.run, h.valid, h.device, h.queue⟩⟩

/-- The pieces of state that the three laws speak of. -/
structure Desk where
  link : Link
  active : Settings
  tool : ToolUnit

def State.desk (s : State) : Desk := ⟨s.link, s.active, s.tool⟩

/-- A change of state keeps the laws of tool unit, commit log and link receiver. -/
structure KeepsDesk (s t : State) : Prop where
  tool : s.ToolLaw → t.ToolLaw
  log : s.LogLaw → t.LogLaw
  link : s.LinkLaw → t.LinkLaw

theorem KeepsDesk.refl (s : State) : KeepsDesk s s := ⟨id, id, id⟩

theorem KeepsDesk.trans {s t u : State} (h : KeepsDesk s t) (k : KeepsDesk t u) : KeepsDesk s u :=
  ⟨k.tool ∘ h.tool, k.log ∘ h.log, k.link ∘ h.link⟩

/-- `KeepsDesk.trans` from the last change backwards, for a goal that names the state before that change. -/
theorem KeepsDesk.after {s t u : State} (k : KeepsDesk t u) (h : KeepsDesk s t) : KeepsDesk s u := h.trans k

/-- A change of the tool unit alone keeps the laws when its context, its figure and its log meet theirs. -/
theorem KeepsDesk.of_tool {s t : State} (link : t.link = s.link) (active : t.active = s.active)
    (context : s.tool.context.Law s.active.toolInForce → t.tool.context.Law s.active.toolInForce)
    (drag : s.tool.drag.Law → t.tool.drag.Law) (log : s.tool.LogLaw → t.tool.LogLaw) : KeepsDesk s t := by
  refine ⟨fun h => ?_, fun h => ?_, fun h => ?_⟩
  · obtain ⟨c, d⟩ := (State.toolLaw_iff s).1 h
    exact (State.toolLaw_iff t).2 ⟨active ▸ context c, drag d⟩
  · exact (State.logLaw_iff t).2 (log ((State.logLaw_iff s).1 h))
  · rw [State.linkLaw_iff, link, active]
    exact (State.linkLaw_iff s).1 h

/-- A change of the link receiver alone keeps the laws when the receiver meets its own. -/
theorem KeepsDesk.of_link {s t : State} (active : t.active = s.active) (tool : t.tool = s.tool)
    (link : s.link.Law s.active.device → t.link.Law s.active.device) : KeepsDesk s t := by
  refine ⟨fun h => ?_, fun h => ?_, fun h => ?_⟩
  · rw [State.toolLaw_iff, tool, active]
    exact (State.toolLaw_iff s).1 h
  · rw [State.logLaw_iff, tool]
    exact (State.logLaw_iff s).1 h
  · rw [State.linkLaw_iff, active]
    exact link ((State.linkLaw_iff s).1 h)

/-- The laws depend on nothing but the link receiver, the active settings and the tool unit. -/
theorem KeepsDesk.of_desk {s t : State} (same : t.desk = s.desk) : KeepsDesk s t :=
  .of_link (congrArg Desk.active same) (congrArg Desk.tool same) fun h => by
    rw [show t.link = s.link from congrArg Desk.link same]
    exact h

theorem LinkFrame.keepsDesk {s t : State} (frame : LinkFrame s t)
    (link : s.link.Law s.active.device → t.link.Law s.active.device) : KeepsDesk s t := by
  refine .of_link ?_ frame.tool_eq link
  obtain ⟨l, n, r, rfl⟩ := frame
  rfl

/-! ### Operations that leave receiver, settings and tool unit as they are -/

theorem ListFrame.desk {s t : State} (h : ListFrame s t) : t.desk = s.desk := by
  obtain ⟨u, n, rfl⟩ := h
  rfl

theorem arbitrate_desk (s : State) : (arbitrate s).desk = s.desk := by
  obtain ⟨a, f, p, q, h⟩ := arbitrate_frame s
  rw [h]
  rfl

theorem request_desk (r : Requester) (s : State) : (request r s).desk = s.desk :=
  arbitrate_desk (s.withArbiter { s.arbiter with waiting := s.arbiter.waiting.set r true })

theorem accessed_desk (port : PortId) (loc : Nat) (s : State) : (accessed port loc s).desk = s.desk := by
  obtain ⟨p, h⟩ := accessed_frame port loc s
  rw [h]
  rfl

theorem settleReset_desk (s : State) : (settleReset s).desk = s.desk := by
  rcases settleReset_cases s with ⟨-, -, -, h⟩ | h
  · rw [h]
    rfl
  · rw [h]

theorem emptyCapture_desk (s : State) : (emptyCapture s).desk = s.desk := by
  rw [emptyCapture_eq]
  rfl

theorem withPick_desk (i : PickId) (p : PickSlot) (s : State) : (s.withPick i p).desk = s.desk := by
  cases i <;> rfl

theorem raisePickDone_desk (i : PickId) (s : State) : (raisePickDone i s).desk = s.desk := by
  cases i <;> rfl

theorem putTable_desk (t : Table) (s : State) : (putTable t s).desk = s.desk := rfl

theorem abortPick_desk (i : PickId) (s : State) : (abortPick i s).desk = s.desk := by
  unfold abortPick
  dsimp only
  split
  · rfl
  · rw [raisePickDone_desk, withPick_desk]
    rfl

theorem writePick_desk (i : PickId) (input : PickInput) (v : Word) (s : State) :
    (writePick i input v s).desk = s.desk := by
  unfold writePick startPick
  dsimp only
  split_ifs
  · exact withPick_desk _ _ s
  · rw [request_desk, withPick_desk]
  · rfl
  · exact withPick_desk _ _ s

theorem writePickAt_desk (i : PickId) (input : PickInput) (v : Word) (s : State) :
    (writePickAt i input v s).desk = s.desk := by
  unfold writePickAt
  split
  · rfl
  · cases i
    case pick0 => rw [accessed_desk, writePick_desk]
    case pick1 => rw [accessed_desk, writePick_desk]

theorem resetBuilder_desk (s : State) : (resetBuilder s).desk = s.desk := by
  unfold resetBuilder
  dsimp only
  split <;> rfl

theorem beginBuildResolution_desk (s : State) : (beginBuildResolution s).desk = s.desk := by
  unfold beginBuildResolution
  split <;> rfl

theorem completeBuild_desk (s : State) : (completeBuild s).desk = s.desk := by
  obtain ⟨b, n, h⟩ := completeBuild_frame s
  rw [h]
  rfl

theorem frameStart_desk (s : State) : (frameStart s).desk = s.desk := by
  obtain ⟨b, n, h⟩ := frameStart_frame s
  rw [h]
  rfl

theorem beginBuild_desk (bank : Fin 3) (s : State) : (beginBuild bank s).desk = s.desk := by
  rw [beginBuild_eq_afterSnapshot]
  unfold afterSnapshot
  split
  · exact request_desk _ _
  · exact emptyCapture_desk _
  · rfl

theorem beginGrantedCell_desk (s : State) : (beginGrantedCell s).desk = s.desk := by
  rcases beginGrantedCell_cases s with ⟨list, applied, cell, c, -, h⟩ | h
  · rw [h]
    rfl
  · rw [h]

theorem resetUpdate_desk (s : State) : (resetUpdate s).desk = s.desk := by
  rcases resetUpdate_cases s with ⟨-, h⟩ | ⟨-, h⟩
  · rw [h]
    rfl
  · rw [h]

theorem cellBoundary_desk (s : State) : (cellBoundary s).desk = s.desk := settleReset_desk _

theorem boundaryAfterWrite_desk (busError : Bool) (s : State) : (boundaryAfterWrite busError s).desk = s.desk := by
  unfold boundaryAfterWrite
  split
  · exact cellBoundary_desk _
  · exact cellBoundary_desk s

theorem followLink_desk (f : InFlight) (c : Cell) (s : State) : (followLink f c s).desk = s.desk := by
  unfold followLink
  split_ifs
  · exact (endList_frame _ _ s).desk
  · exact (endList_frame _ _ s).desk
  · rfl

theorem tearDown_desk (f : InFlight) (c : Cell) (s : State) : (tearDown f c s).desk = s.desk := by
  unfold tearDown
  split_ifs
  · exact (endList_frame _ _ s).desk
  · exact (endList_frame _ _ s).desk
  · rfl

theorem writeBackDone_desk (f : InFlight) (c : Cell) (failed : Bool) (s : State) :
    (writeBackDone f c failed s).desk = s.desk := by
  unfold writeBackDone
  split_ifs
  · exact boundaryAfterWrite_desk _ s
  · exact (endList_frame _ _ s).desk
  · exact tearDown_desk f c s
  · exact followLink_desk f c s

theorem writeBackCompletes_desk (handleError controlError : Bool) (s : State) :
    (writeBackCompletes handleError controlError s).desk = s.desk := by
  unfold writeBackCompletes
  split
  · exact writeBackDone_desk _ _ _ (showWrites _ s)
  · rfl

theorem markingDone_desk (f : InFlight) (busError : Bool) (s : State) : (markingDone f busError s).desk = s.desk := by
  unfold markingDone
  split
  · exact boundaryAfterWrite_desk _ s
  · exact (endList_frame _ _ s).desk

theorem markingCompletes_desk (busError : Bool) (s : State) : (markingCompletes busError s).desk = s.desk := by
  unfold markingCompletes
  split
  · exact markingDone_desk _ _ (showWrites _ s)
  · rfl

theorem updateTeardown_desk (s : State) : (updateTeardown s).desk = s.desk := by
  rw [updateTeardown_eq]
  rfl

theorem clearNotices_desk (port : PortId) (v : Word) (s : State) : (clearNotices port v s).desk = s.desk := by
  cases port <;> rfl

theorem enableNotices_desk (port : PortId) (v : Word) (s : State) : (enableNotices port v s).desk = s.desk := by
  cases port <;> rfl

theorem disableNotices_desk (port : PortId) (v : Word) (s : State) : (disableNotices port v s).desk = s.desk := by
  cases port <;> rfl

theorem staged_desk (st : Settings) (s : State) : State.desk { s with staged := st } = s.desk := rfl

theorem readStream_desk (s : State) : (readStream s).desk = s.desk := by
  unfold readStream
  dsimp only
  rw [advanceStream_eq]
  rfl

theorem portRead_desk (port : PortId) (address : PortAddr) (s : State) : (portRead port address s).desk = s.desk := by
  cases port <;> cases address
  case app.index => rfl
  case disp.index => rfl
  case app.data => exact accessed_desk _ _ _
  case disp.data =>
    refine (accessed_desk _ _ _).trans ?_
    split
    · exact readStream_desk s
    · rfl

/-- A DATA write of the display window reaches the builder, its notices and a pick slot alone (R196). -/
theorem writeDisp_desk (loc : Nat) (v : Word) (s : State) : (writeDisp loc v s).desk = s.desk := by
  unfold writeDisp
  split_ifs
  · exact clearNotices_desk _ _ s
  · exact enableNotices_desk _ _ s
  · exact disableNotices_desk _ _ s
  · exact frameStart_desk s
  · rfl
  · split
    · rfl
    · rfl
  · split
    · exact writePick_desk _ _ _ s
    · rfl
  · rfl

end Sys2Proof.Machine

/-! ## Bytes, expiries and LINK_RESTART keep the law of the link receiver (R27 to R45) -/

namespace Sys2Proof.Machine

open Sys2Proof.Claims

theorem Link.Law.assembling {l : Link} {d : Fin 8} (h : l.Law d) {a : Assembler}
    (held : ∀ bytes t, a = .body bytes t → 1 ≤ bytes.length ∧ bytes.length ≤ 6) :
    Link.Law { l with assembler := a } d :=
  ⟨held, h.run, h.valid, h.device, h.queue⟩

theorem Link.Law.hunting {l : Link} {d : Fin 8} (h : l.Law d) : Link.Law { l with assembler := .hunt } d :=
  h.assembling fun _ _ e => nomatch e

theorem Link.Law.health {l : Link} {d : Fin 8} (h : l.Law d) (errors : BitVec 8) (run : BitVec 7)
    (counted : run.toNat < Config.recoveryRun ∧ (linkStateOf errors ≠ .offline → run = 0)) :
    Link.Law { l with errors := errors, run := run } d :=
  ⟨h.held, counted, h.valid, h.device, h.queue⟩

/-- With the run at 0 every counter value meets the law (R34). -/
theorem Link.Law.health_zero {l : Link} {d : Fin 8} (h : l.Law d) (errors : BitVec 8) :
    Link.Law { l with errors := errors, run := 0 } d :=
  h.health errors 0 ⟨by decide, fun _ => rfl⟩

/-- The loss of the cursor meets the law for every active device (R39, R42). -/
theorem Link.Law.lost {l : Link} {d : Fin 8} (h : l.Law d) (d' : Fin 8) (buttons : Vector Button 4) :
    Link.Law { l with condition := .none, fValid := false, buttons := buttons } d' :=
  ⟨h.held, h.run, ⟨fun inside => (nomatch inside), fun _ => rfl⟩, fun other => absurd rfl other, h.queue⟩

/-- The recovery run counts to 63 in OFFLINE alone (R34). -/
theorem Link.Law.afterGood {l : Link} {d : Fin 8} (h : l.Law d) :
    (afterGood l).2.toNat < Config.recoveryRun ∧ (linkStateOf (afterGood l).1 ≠ .offline → (afterGood l).2 = 0) := by
  obtain ⟨below, -⟩ := h.run
  have zero : (0 : BitVec 7).toNat < Config.recoveryRun := by decide
  unfold Claims.afterGood
  split
  · rename_i offline
    split
    · exact ⟨zero, fun _ => rfl⟩
    · rename_i notLast
      refine ⟨?_, fun online => absurd offline online⟩
      unfold Config.recoveryRun at below ⊢
      bv_omega
  · exact ⟨zero, fun _ => rfl⟩

/-- A device becomes PRESENT, and no other device's presence changes (R36). -/
theorem Link.Law.arriving {l : Link} {d : Fin 8} (h : l.Law d) (device : Fin 8) (expiresAt : Nat) :
    Link.Law { l with presence := l.presence.set device (.present expiresAt) } d := by
  refine ⟨h.held, h.run, h.valid, fun other => ?_, h.queue⟩
  show (l.presence.set device (.present expiresAt))[d.val].isPresent = true
  rw [Vector.getElem_set]
  split
  · rfl
  · exact h.device other

/-- A device that is not active becomes ABSENT (R36, R37). -/
theorem Link.Law.leaving {l : Link} {d : Fin 8} (h : l.Law d) {device : Fin 8} (other : device ≠ d) :
    Link.Law { l with presence := l.presence.set device .absent } d := by
  refine ⟨h.held, h.run, h.valid, fun condition => ?_, h.queue⟩
  show (l.presence.set device .absent)[d.val].isPresent = true
  rw [Vector.getElem_set_ne device.isLt d.isLt fun same => other (Fin.ext same)]
  exact h.device condition

/-- The queue takes an entry with a button while it has room for it (R43). -/
theorem joinQueue_keeps (queue : List QueueEntry) (e : QueueEntry)
    (h : queue.length ≤ Config.buttonQueueCap ∧ ∀ e ∈ queue, e.buttons ≠ 0) :
    (joinQueue queue e).length ≤ Config.buttonQueueCap ∧ ∀ e' ∈ joinQueue queue e, e'.buttons ≠ 0 := by
  obtain ⟨short, buttons⟩ := h
  unfold joinQueue
  split
  · rename_i taken
    obtain ⟨pressed, room⟩ := taken
    refine ⟨?_, fun e' mem => ?_⟩
    · rw [List.length_append]
      exact room
    · rcases List.mem_append.1 mem with old | new
      · exact buttons e' old
      · rw [List.mem_singleton.1 new]
        exact pressed
  · exact ⟨short, buttons⟩

/-- A used frame moves the cursor of a device that is PRESENT (R38, R39). -/
theorem useFrame_linkLaw (time : Nat) (fr : Frame) (s : State) {d : Fin 8} (h : s.link.Law d)
    (present : s.link.presence[d].isPresent = true) : (useFrame time fr s).link.Law d := by
  cases near : fr.proximity with
  | false =>
    rw [useFrame_out time fr s near]
    exact ⟨h.held, h.run, ⟨fun inside => (nomatch inside), fun none => (nomatch none)⟩, fun _ => present, h.queue⟩
  | true =>
    rw [useFrame_in time fr s near]
    exact ⟨h.held, h.run, ⟨fun _ => rfl, fun none => (nomatch none)⟩, fun _ => present, joinQueue_keeps _ _ h.queue⟩

/-- Health and presence of a good frame (R32, R36). -/
theorem arrived_linkLaw (time : Nat) (device : Fin 8) (s : State) {d : Fin 8} (h : s.link.Law d) :
    (arrived time device s).link.Law d := by
  rw [arrived_link]
  exact (h.hunting.health _ _ h.afterGood).arriving device _

theorem goodFrame_linkLaw (time : Nat) (fr : Frame) (s : State) (h : s.link.Law s.active.device) :
    (goodFrame time fr (setAssembler .hunt s)).link.Law s.active.device := by
  rw [goodFrame_eq]
  have arrives := arrived_linkLaw time fr.device s h
  split
  · rename_i used
    refine useFrame_linkLaw time fr _ arrives ?_
    rw [← used.1, arrived_link]
    simp [Presence.isPresent]
  · exact arrives

theorem frameError_linkLaw (s : State) {d : Fin 8} (h : s.link.Law d) : (frameError s).link.Law d := by
  rw [frameError_eq]
  exact h.hunting.health_zero _

theorem startFrame_linkLaw (time : Nat) (b : Byte) (s : State) {d : Fin 8} (h : s.link.Law d) :
    (startFrame time b s).link.Law d := by
  unfold startFrame
  split
  · refine h.assembling fun bytes t body => ?_
    cases body
    exact ⟨le_refl 1, by simp⟩
  · exact frameError_linkLaw s h

/-- Byte 6 ends the frame, so that a byte that is held comes before it (R28). -/
theorem takeBodyByte_linkLaw (time : Nat) (held : List Byte) (b : Byte) (s : State) (h : s.link.Law s.active.device)
    (atMost : held.length ≤ 6) : (takeBodyByte time held b s).link.Law s.active.device := by
  unfold takeBodyByte
  split
  · split
    · exact goodFrame_linkLaw time _ s h
    · exact frameError_linkLaw s h
  · rename_i notSix
    have fewer : held.length ≠ 6 := fun six => by
      match held, six with
      | [b0, b1, b2, b3, b4, b5], _ => exact notSix b0 b1 b2 b3 b4 b5 rfl
    split
    · exact frameError_linkLaw s h
    · refine h.assembling fun bytes t body => ?_
      cases body
      rw [List.length_append, List.length_singleton]
      omega

theorem takeByte_linkLaw (time : Nat) (sound : Bool) (b : Byte) (s : State) (h : s.link.Law s.active.device) :
    (takeByte time sound b s).link.Law s.active.device := by
  unfold takeByte
  split
  · split
    · exact startFrame_linkLaw time b s h
    · exact h
  · rename_i held gapAt body
    split_ifs
    · exact frameError_linkLaw s h
    · exact startFrame_linkLaw time b _ (frameError_linkLaw s h)
    · exact takeBodyByte_linkLaw time held b s h (h.held held gapAt body).2

theorem gapExpires_linkLaw (time : Nat) (s : State) {d : Fin 8} (h : s.link.Law d) :
    (gapExpires time s).link.Law d := by
  unfold gapExpires
  split
  · exact h
  · split
    · exact frameError_linkLaw s h
    · exact h

theorem presenceExpires_linkLaw (time : Nat) (device : Fin 8) (s : State) (h : s.link.Law s.active.device) :
    (presenceExpires time device s).link.Law s.active.device := by
  unfold presenceExpires
  split
  · exact h
  · rename_i expiresAt present
    split
    · by_cases active : device = s.active.device
      · rw [expirePresence_active expiresAt device s present active]
        exact ⟨h.held, h.run, ⟨fun inside => (nomatch inside), fun _ => rfl⟩, fun other => absurd rfl other, h.queue⟩
      · rw [expirePresence_other device s active]
        exact h.leaving active
    · exact h

theorem linkRestart_linkLaw (s : State) {d : Fin 8} (h : s.link.Law d) : (linkRestart s).link.Law d := by
  rw [linkRestart_eq]
  exact h.hunting.health_zero 0

theorem resetLink_linkLaw (s : State) {d : Fin 8} (h : s.link.Law d) : (resetLink s).link.Law d := by
  unfold resetLink
  rw [cursorLost_eq]
  have lost := h.lost d buttonsReleased
  exact ⟨lost.held, lost.run, lost.valid, lost.device, Nat.zero_le _, fun _ mem => nomatch mem⟩

theorem takeByte_keepsDesk (time : Nat) (sound : Bool) (b : Byte) (s : State) :
    KeepsDesk s (takeByte time sound b s) :=
  (takeByte_frame time sound b s).keepsDesk (takeByte_linkLaw time sound b s)

theorem gapExpires_keepsDesk (time : Nat) (s : State) : KeepsDesk s (gapExpires time s) :=
  (gapExpires_frame time s).keepsDesk (gapExpires_linkLaw time s)

theorem presenceExpires_keepsDesk (time : Nat) (device : Fin 8) (s : State) :
    KeepsDesk s (presenceExpires time device s) :=
  (presenceExpires_frame time device s).keepsDesk (presenceExpires_linkLaw time device s)

theorem linkRestart_keepsDesk (s : State) : KeepsDesk s (linkRestart s) :=
  (linkRestart_frame s).keepsDesk (linkRestart_linkLaw s)

theorem resetLink_keepsDesk (s : State) : KeepsDesk s (resetLink s) :=
  (resetLink_frame s).keepsDesk (resetLink_linkLaw s)

end Sys2Proof.Machine

/-! ## Apply, commits, drag cells and records keep the laws of the tool unit (R124 to R142) -/

namespace Sys2Proof.Machine

/-! ### The taking of an apply (R31, R37, R124) -/

theorem Settings.device_congr {old new : Settings} (same : new.activeDevice = old.activeDevice) :
    new.device = old.device := by
  unfold Settings.device
  rw [same]

theorem Settings.toolInForce_congr {old new : Settings} (same : new.tool = old.tool) :
    new.toolInForce = old.toolInForce := by
  unfold Settings.toolInForce
  rw [same]

theorem ToolContext.Law.empty (tool : Tool) : ToolContext.empty.Law tool := by
  refine ⟨⟨?_, ?_⟩, fun _ => rfl, fun _ => Nat.zero_le 1⟩
  · exact ⟨fun _ => rfl, fun _ => rfl⟩
  · exact ⟨fun _ => rfl, fun _ => rfl⟩

theorem Drag.Law.empty : Drag.empty.Law := ⟨Nat.zero_le _, fun _ => rfl⟩

/-- The receiver at the taking of an apply: HUNT at a changed rate, the cursor lost at a changed device (R31, R37). -/
theorem applyDevice_linkLaw (old new : Settings) (s : State) (h : s.link.Law old.device) :
    (applyDevice old new (applyRate old new s)).link.Law new.device := by
  have rated : (applyRate old new s).link.Law old.device := by
    unfold applyRate
    split
    · exact h
    · exact h.hunting
  generalize applyRate old new s = u at rated ⊢
  unfold applyDevice
  split
  · rename_i same
    rw [Settings.device_congr same]
    exact rated
  · have lost : Link.Law { (cursorLost u).link with buttons := buttonsReleased } new.device := by
      rw [cursorLost_eq]
      exact rated.lost new.device buttonsReleased
    dsimp only
    split
    · exact lost
    · exact lost

/-- What an apply does to receiver and tool unit: the actions of the two blocks, made on the state as it was (R31, R37,
R124). -/
theorem takeApply_blocks (s : State) :
    ∃ u : State, u.link = s.link ∧
      (takeApply s).link = (applyDevice s.active (takeApply s).active (applyRate s.active (takeApply s).active u)).link ∧
      (takeApply s).tool = (applyTool s.active (takeApply s).active s).tool := by
  obtain ⟨l, n, c, d, frame⟩ := takeApply_frame s
  rw [show (takeApply s).active = s.staged.clamped s.active.tool by rw [frame]]
  clear frame
  unfold takeApply
  dsimp only
  generalize s.staged.clamped s.active.tool = new
  generalize putting : putTable _ (applyTool s.active new { s with active := new }) = u
  have link : u.link = s.link := by
    rw [← putting]
    unfold applyTool
    split <;> rfl
  have tool : u.tool = (applyTool s.active new s).tool := by
    rw [← putting]
    unfold applyTool
    split <;> rfl
  have kept : (applyDevice s.active new (applyRate s.active new u)).tool = u.tool :=
    ((applyRate_frame s.active new u).trans (applyDevice_frame s.active new _)).tool_eq
  refine ⟨u, link, ?_, ?_⟩
  · split <;> rfl
  · rw [← tool, ← kept]
    split <;> rfl

/-- A changed tool clears context and figure; otherwise both stay under the tool they were made with (R124). -/
theorem applyTool_law (old new : Settings) (s : State) (context : s.tool.context.Law old.toolInForce)
    (drag : s.tool.drag.Law) :
    (applyTool old new s).tool.context.Law new.toolInForce ∧ (applyTool old new s).tool.drag.Law := by
  unfold applyTool
  split
  · rename_i same
    rw [Settings.toolInForce_congr same]
    exact ⟨context, drag⟩
  · exact ⟨.empty _, .empty⟩

theorem takeApply_keepsDesk (s : State) : KeepsDesk s (takeApply s) := by
  obtain ⟨u, before, link, tool⟩ := takeApply_blocks s
  generalize takeApply s = t at link tool
  refine ⟨fun h => ?_, fun h => ?_, fun h => ?_⟩
  · obtain ⟨context, drag⟩ := (State.toolLaw_iff s).1 h
    rw [State.toolLaw_iff, tool]
    exact applyTool_law _ _ s context drag
  · obtain ⟨c, d, frame⟩ := applyTool_frame s.active t.active s
    rw [State.logLaw_iff, tool, frame]
    have law := (State.logLaw_iff s).1 h
    exact ⟨law.cap, law.room, law.consecutive⟩
  · rw [State.linkLaw_iff, link]
    refine applyDevice_linkLaw _ _ u ?_
    rw [before]
    exact (State.linkLaw_iff s).1 h

/-! ### Builds and releases (R148, R149) -/

theorem makeBuildStart_keepsDesk (s : State) : KeepsDesk s (makeBuildStart s) := by
  unfold makeBuildStart
  split
  · exact .refl s
  · split
    · exact (takeApply_keepsDesk s).trans (.of_desk (beginBuild_desk _ _))
    · exact .of_desk (beginBuild_desk _ s)

theorem tryBuildStart_keepsDesk (s : State) : KeepsDesk s (tryBuildStart s) := by
  unfold tryBuildStart
  split_ifs
  · exact .refl s
  · exact .refl s
  · exact makeBuildStart_keepsDesk s

theorem releaseGrant_keepsDesk (s : State) : KeepsDesk s (releaseGrant s) := by
  have freed : KeepsDesk s (freeHolder s) := .of_desk rfl
  unfold releaseGrant
  dsimp only
  refine KeepsDesk.after (.of_desk (arbitrate_desk _)) ?_
  split
  · exact freed.trans (makeBuildStart_keepsDesk _)
  · exact freed

theorem completePick_keepsDesk (i : PickId) (s : State) : KeepsDesk s (completePick i s) :=
  (releaseGrant_keepsDesk _).after (.of_desk ((raisePickDone_desk i _).trans (withPick_desk i _ s)))

theorem pickCompletes_keepsDesk (s : State) : KeepsDesk s (pickCompletes s) := by
  unfold pickCompletes
  split
  · split
    · exact completePick_keepsDesk .pick0 s
    · exact .refl s
  · split
    · exact completePick_keepsDesk .pick1 s
    · exact .refl s
  all_goals exact .refl s

theorem cellApplies_keepsDesk (s : State) : KeepsDesk s (cellApplies s) := by
  unfold cellApplies
  split
  · exact (releaseGrant_keepsDesk _).after (.of_desk rfl)
  · exact .refl s

theorem endBuildResolution_keepsDesk (r : Resolution) (s : State) : KeepsDesk s (endBuildResolution r s) := by
  unfold endBuildResolution
  split
  · exact (releaseGrant_keepsDesk _).after (.of_desk rfl)
  · exact .refl s

/-! ### Drag cells (R86, R87, R125) -/

/-- A drag cell sets a base with an empty figure, or adds a segment while there is room (R86, R125). -/
theorem dragOutcome_law (d : Drag) (c : Cell) (h : d.Law) : (dragOutcome d c).1.Law := by
  unfold dragOutcome
  split
  · split
    · exact ⟨Nat.zero_le _, fun none => (nomatch none)⟩
    · exact h
  · split
    · exact h
    · split
      · exact h
      · split
        · exact h
        rename_i room
        refine ⟨?_, fun none => (nomatch none)⟩
        rw [List.length_append, List.length_singleton]
        exact Nat.lt_of_not_le room

theorem applyDrag_keepsDesk (f : InFlight) (c : Cell) (s : State) : KeepsDesk s (applyDrag f c s) := by
  rw [applyDrag_eq]
  exact .of_tool rfl rfl id (dragOutcome_law _ c) fun h => ⟨h.cap, h.room, h.consecutive⟩

theorem applyWaitingDrag_keepsDesk (s : State) : KeepsDesk s (applyWaitingDrag s) := by
  unfold applyWaitingDrag
  split
  · split
    · exact .refl s
    · exact applyDrag_keepsDesk _ _ s
  · exact .refl s

theorem dispatch_keepsDesk (f : InFlight) (c : Cell) (s : State) : KeepsDesk s (dispatch f c s) := by
  unfold dispatch
  split_ifs
  · exact .of_desk (request_desk _ _)
  · exact .of_desk rfl
  · exact .of_desk rfl
  · exact .of_desk rfl
  · exact applyDrag_keepsDesk f c s

theorem fetchDone_keepsDesk (f : InFlight) (reply : FetchReply) (s : State) : KeepsDesk s (fetchDone f reply s) := by
  unfold fetchDone
  split
  · exact .of_desk (cellBoundary_desk s)
  · split
    · exact .of_desk (endList_frame _ _ s).desk
    · split
      · exact dispatch_keepsDesk _ _ s
      · exact .of_desk (endList_frame _ _ s).desk

theorem fetchCompletes_keepsDesk (reply : FetchReply) (s : State) : KeepsDesk s (fetchCompletes reply s) := by
  unfold fetchCompletes
  split
  · exact fetchDone_keepsDesk _ reply s
  · exact .refl s

/-! ### Records (R128, R141, R142, R144) -/

/-- A record under the next sequence number continues the log (R141). -/
theorem sequenceEndsAt_append (counter : Half) (log : List CommitRecord) (r : CommitRecord)
    (h : sequenceEndsAt counter log) (next : r.seq = counter + 1) : sequenceEndsAt (counter + 1) (log ++ [r]) := by
  induction log with
  | nil => exact ⟨by simpa using next, trivial⟩
  | cons a rest ih =>
    obtain ⟨first, rest_ends⟩ := h
    refine ⟨?_, ih rest_ends⟩
    show a.seq = counter + 1 - BitVec.ofNat 16 (rest ++ [r]).length
    rw [first, List.length_append, List.length_singleton, BitVec.ofNat_add]
    exact (add_sub_add_right_eq_sub counter _ 1).symm

/-- The log without its oldest record ends as before (R144). -/
theorem sequenceEndsAt_tail (counter : Half) (log : List CommitRecord) (h : sequenceEndsAt counter log) :
    sequenceEndsAt counter (log.drop 1) := by
  cases log with
  | nil => exact h
  | cons a rest => exact h.2

/-- A log with room meets its law with a record more, when the commit that made it has ended (R128, R141, R142). -/
theorem ToolUnit.LogLaw.logged {t : ToolUnit} (h : t.LogLaw) (room : t.log.length < Config.commitLogCap)
    (r : CommitRecord) :
    ToolUnit.LogLaw { t with
      commit := none, log := t.log ++ [{ r with seq := t.sequence + 1 }], sequence := t.sequence + 1 } := by
  refine ⟨?_, fun resolving => (nomatch resolving), sequenceEndsAt_append _ _ _ h.consecutive rfl⟩
  rw [List.length_append]
  exact room

theorem commitPop_keepsDesk (s : State) : KeepsDesk s (commitPop s) := by
  have shorter : (s.tool.log.drop 1).length ≤ s.tool.log.length := (List.drop_sublist 1 _).length_le
  refine .of_tool rfl rfl id id fun h => ⟨?_, fun resolving => ?_, sequenceEndsAt_tail _ _ h.consecutive⟩
  · exact shorter.trans h.cap
  · exact shorter.trans_lt (h.room resolving)

theorem toolResetEvent_keepsDesk (s : State) : KeepsDesk s (toolResetEvent s) :=
  .of_tool rfl rfl (fun _ => .empty _) (fun _ => .empty) fun _ => ⟨Nat.zero_le _, fun _ => Nat.zero_lt_succ _, trivial⟩

/-! ### The end of a commit (R126, R127) -/

/-- A handled button leaves its entry, and the entry leaves the queue with its last button (R126). -/
theorem queueAfter_keeps (button : ButtonName) (queue : List QueueEntry)
    (h : queue.length ≤ Config.buttonQueueCap ∧ ∀ e ∈ queue, e.buttons ≠ 0) :
    (queueAfter button queue).length ≤ Config.buttonQueueCap ∧ ∀ e ∈ queueAfter button queue, e.buttons ≠ 0 := by
  obtain ⟨short, buttons⟩ := h
  cases queue with
  | nil => exact ⟨short, buttons⟩
  | cons e rest =>
    obtain ⟨-, others⟩ := List.forall_mem_cons.1 buttons
    unfold queueAfter
    dsimp only
    split
    · exact ⟨Nat.le_of_succ_le short, others⟩
    · rename_i left
      exact ⟨short, List.forall_mem_cons.2 ⟨left, others⟩⟩

theorem handlePress_keepsDesk (c : CommitInHand) (s : State) : KeepsDesk s (handlePress c s) := by
  rw [handlePress_eq]
  refine .of_link rfl rfl fun h => ⟨h.held, h.run, h.valid, h.device, ?_⟩
  dsimp only
  split
  · exact queueAfter_keeps c.button _ h.queue
  · exact h.queue

/-- After the commit has left the tool unit its end keeps the laws (R87, R126, R127, R145). -/
theorem endCommit_keepsDesk (c : CommitInHand) (s : State) :
    KeepsDesk (s.withTool { s.tool with commit := none }) (endCommit c s) := by
  have handled : KeepsDesk (s.withTool { s.tool with commit := none })
      (applyWaitingDrag (handlePress c (s.withTool { s.tool with commit := none }))) :=
    (handlePress_keepsDesk c _).trans (applyWaitingDrag_keepsDesk _)
  have settled : ∀ t, KeepsDesk t (releaseGrant (settleReset t)) := fun t =>
    KeepsDesk.trans (.of_desk (settleReset_desk t)) (releaseGrant_keepsDesk _)
  unfold endCommit
  dsimp only
  split
  · exact (handled.trans (toolResetEvent_keepsDesk _)).trans (settled _)
  · exact handled.trans (settled _)

/-- A commit that ends by a refusal makes no record (R128, R129). -/
theorem endCommit_refused_keepsDesk (c : CommitInHand) (s : State) : KeepsDesk s (endCommit c s) :=
  (endCommit_keepsDesk c s).after
    (.of_tool rfl rfl id id fun h => ⟨h.cap, fun resolving => (nomatch resolving), h.consecutive⟩)

/-- A commit that ends by a record found room for it (R127, R128, R141, R142). -/
theorem endCommit_logged_keepsDesk (c : CommitInHand) (r : CommitRecord) (s : State)
    (room : s.tool.LogLaw → s.tool.log.length < Config.commitLogCap) :
    KeepsDesk s (endCommit c (appendRecord r s)) :=
  (endCommit_keepsDesk c _).after (.of_tool rfl rfl id id fun h => h.logged (room h) r)

/-! ### The course of a commit (R127 to R138) -/

theorem putContext_keepsDesk (ctx : ToolContext) (d : Drag) (s : State)
    (context : s.tool.context.Law s.active.toolInForce → ctx.Law s.active.toolInForce)
    (drag : s.tool.drag.Law → d.Law) : KeepsDesk s (putContext ctx d s) :=
  .of_tool rfl rfl context drag fun h => ⟨h.cap, h.room, h.consecutive⟩

theorem dragEnded_law (tool : Tool) (d : Drag) (h : d.Law) : (dragEnded tool d).Law := by
  unfold dragEnded
  split
  · exact .empty
  · exact h

/-- A FINISH or a CANCEL clears the context (R134, R135). -/
theorem commitWithoutPoint_keepsDesk (c : CommitInHand) (kind : RecordKind) (e : PressEffect) (s : State)
    (cleared : e.context = ToolContext.empty) (drag : s.tool.drag.Law → e.drag.Law)
    (room : s.tool.log.length < Config.commitLogCap) : KeepsDesk s (commitWithoutPoint c kind e s) :=
  (putContext_keepsDesk _ _ s (fun _ => cleared ▸ .empty _) drag).trans
    (endCommit_logged_keepsDesk c _ _ fun _ => room)

theorem emptyCapture_tool (s : State) : (emptyCapture s).tool = s.tool := congrArg Desk.tool (emptyCapture_desk s)

theorem commitMenuPick_keepsDesk (c : CommitInHand) (window : MenuId) (cell : BitVec 8) (s : State)
    (room : s.tool.log.length < Config.commitLogCap) : KeepsDesk s (commitMenuPick c window cell s) :=
  KeepsDesk.trans (.of_desk (emptyCapture_desk s))
    (endCommit_logged_keepsDesk c _ _ fun _ => by rw [emptyCapture_tool]; exact room)

/-- A resolution begins with room for the record of its commit (R128, R130). -/
theorem commitResolution_keepsDesk (c : CommitInHand) (mode : Mode) (s : State)
    (room : s.tool.log.length < Config.commitLogCap) : KeepsDesk s (commitResolution c mode s) :=
  .of_tool rfl rfl id id fun h => ⟨h.cap, fun _ => room, h.consecutive⟩

theorem commitPoint_keepsDesk (c : CommitInHand) (s : State) (room : s.tool.log.length < Config.commitLogCap) :
    KeepsDesk s (commitPoint c s) := by
  unfold commitPoint
  split
  · exact commitMenuPick_keepsDesk c _ _ s room
  · exact commitResolution_keepsDesk c _ s room

theorem commitAccepted_keepsDesk (c : CommitInHand) (s : State) (room : s.tool.log.length < Config.commitLogCap) :
    KeepsDesk s (commitAccepted c s) := by
  unfold commitAccepted
  split
  · exact commitWithoutPoint_keepsDesk c _ _ s rfl (dragEnded_law _ _) room
  · exact commitWithoutPoint_keepsDesk c _ _ s rfl (dragEnded_law _ _) room
  · exact commitPoint_keepsDesk c s room
  · exact commitPoint_keepsDesk c s room

/-- A commit that passes the refusal tests finds room in the log (R128). -/
theorem commitRefusal_none_room {button : ButtonName} {s : State} (passed : commitRefusal button s = none) :
    s.tool.log.length < Config.commitLogCap := by
  unfold commitRefusal at passed
  split at passed
  · cases passed
  · rename_i room
    exact Nat.lt_of_not_le room

theorem beginCommit_keepsDesk (c : CommitInHand) (s : State) : KeepsDesk s (beginCommit c s) := by
  have applied : KeepsDesk s (if s.applyPending then takeApply s else s) := by
    split
    · exact takeApply_keepsDesk s
    · exact .refl s
  unfold beginCommit
  dsimp only
  generalize (if s.applyPending then takeApply s else s) = u at applied ⊢
  split
  · exact applied.trans ((endCommit_refused_keepsDesk c _).after (.of_desk rfl))
  · rename_i passed
    exact applied.trans (commitAccepted_keepsDesk c u (commitRefusal_none_room passed))

/-- A first anchor meets the law of every tool that places anchors (R123, R132, R133). -/
theorem openFigure_law (p : Point) {tool : Tool} (places : tool ≠ .none ∧ tool ≠ .move) :
    (openFigure p).Law tool := by
  obtain ⟨notNone, notMove⟩ := places
  refine ⟨⟨?_, ?_⟩, fun still => ?_, fun _ => le_refl 1⟩
  · exact ⟨fun zero => absurd zero (by decide : (1 : BitVec 8) ≠ 0), fun none => (nomatch none)⟩
  · exact ⟨fun zero => absurd zero (by decide : (1 : BitVec 8) ≠ 0), fun none => (nomatch none)⟩
  · exact (still.elim notNone notMove).elim

theorem placeTwoPoint_law (ctx : ToolContext) (d : Drag) (p : Point) (learnsLast : Bool) {tool : Tool}
    (places : tool ≠ .none ∧ tool ≠ .move) : (placeTwoPoint ctx d p learnsLast).context.Law tool := by
  unfold placeTwoPoint
  split
  · exact openFigure_law p places
  · exact .empty tool

/-- The vertex count of a POLYLINE saturates, so that it stays above 0 (R133). -/
theorem vertexCount_ne_zero (count : BitVec 8) : (if count = 255 then 255 else count + 1) ≠ 0 := by
  split
  · decide
  · rename_i below
    intro zero
    exact below (by bv_omega)

theorem placePolyline_law (ctx : ToolContext) (d : Drag) (p : Point) (h : ctx.Law .polyline) :
    (placePolyline ctx d p).context.Law .polyline := by
  unfold placePolyline
  split
  · exact openFigure_law p (by decide)
  · rename_i started
    have placed := vertexCount_ne_zero ctx.count
    refine ⟨⟨⟨fun zero => absurd zero placed, fun none => absurd (h.anchors.1.2 none) started⟩,
      fun zero => absurd zero placed, fun none => (nomatch none)⟩, fun still => ?_, fun twoPoint => ?_⟩
    · rcases still with e | e <;> cases e
    · rcases twoPoint with e | e | e <;> cases e

/-- A PLACE leaves a context that its tool may have (R123, R131 to R133). -/
theorem placeEffect_law (tool : Tool) (ctx : ToolContext) (d : Drag) (p : Point) (h : ctx.Law tool) :
    (placeEffect tool ctx d p).context.Law tool := by
  cases tool with
  | none => exact h
  | move => exact h
  | line => exact placeTwoPoint_law ctx d p _ (by decide)
  | rect => exact placeTwoPoint_law ctx d p _ (by decide)
  | circle => exact placeTwoPoint_law ctx d p _ (by decide)
  | polyline => exact placePolyline_law ctx d p h

/-- A PLACE leaves the drag figure (R131). -/
theorem placeEffect_drag (tool : Tool) (ctx : ToolContext) (d : Drag) (p : Point) :
    (placeEffect tool ctx d p).drag = d := by
  have twoPoint : ∀ learns, (placeTwoPoint ctx d p learns).drag = d := fun learns => by
    unfold placeTwoPoint
    split <;> rfl
  cases tool with
  | none => rfl
  | move => rfl
  | line => exact twoPoint _
  | rect => exact twoPoint _
  | circle => exact twoPoint _
  | polyline =>
    simp only [placeEffect, placePolyline]
    split <;> rfl

theorem finishPlace_keepsDesk (c : CommitInHand) (r : Resolution) (s : State)
    (room : s.tool.LogLaw → s.tool.log.length < Config.commitLogCap) : KeepsDesk s (finishPlace c r s) := by
  unfold finishPlace
  dsimp only
  generalize effect : placeEffect s.active.toolInForce s.tool.context s.tool.drag r.s = e
  have placed : KeepsDesk s (putContext e.context e.drag s) := by
    rw [← effect]
    refine putContext_keepsDesk _ _ s (placeEffect_law _ _ _ _) ?_
    rw [placeEffect_drag]
    exact id
  refine (placed.trans (.of_desk (putTable_desk _ _))).trans (endCommit_logged_keepsDesk c _ _ fun h => ?_)
  exact room ⟨h.cap, h.room, h.consecutive⟩

/-- A commit whose resolution ends has room for its record (R128, R130). -/
theorem finishCommit_keepsDesk (c : CommitInHand) (r : Resolution) (s : State) (commit : s.tool.commit = some c)
    (resolving : c.resolving = true) : KeepsDesk s (finishCommit c r s) := by
  have room : s.tool.LogLaw → s.tool.log.length < Config.commitLogCap := fun h =>
    h.room (by rw [commit]; exact resolving)
  unfold finishCommit
  split
  · exact finishPlace_keepsDesk c r s room
  · exact endCommit_logged_keepsDesk c _ s room
  · exact .refl s
  · exact .refl s

theorem resolutionEnds_keepsDesk (s : State) : KeepsDesk s (resolutionEnds s) := by
  unfold resolutionEnds
  split
  · exact .refl s
  · rename_i inputs _
    generalize resolve inputs s.table = r
    have ended : KeepsDesk s (endResolution r s) := .of_desk rfl
    dsimp only
    split
    · exact ended.trans (endBuildResolution_keepsDesk _ _)
    · refine ended.trans ?_
      unfold endCommitResolution
      split
      · rename_i commit
        exact finishCommit_keepsDesk _ _ _ commit rfl
      · exact .refl _
    · exact ended

theorem tableGrant_keepsDesk (s : State) : KeepsDesk s (tableGrant s) := by
  unfold tableGrant
  refine KeepsDesk.trans (.of_desk (arbitrate_desk s)) ?_
  dsimp only
  split
  · unfold beginGrantedCommit
    split
    · exact beginCommit_keepsDesk _ _
    · exact .refl _
  · exact .of_desk (beginBuildResolution_desk _)
  · exact .of_desk (beginGrantedCell_desk _)
  all_goals exact .refl _

/-- A commit that is taken has no resolution in progress yet (R126). -/
theorem tryCommitStart_keepsDesk (s : State) : KeepsDesk s (tryCommitStart s) := by
  unfold tryCommitStart
  split
  · split
    · exact KeepsDesk.after (.of_desk (request_desk _ _))
        (.of_tool rfl rfl id id fun h => ⟨h.cap, fun resolving => (nomatch resolving), h.consecutive⟩)
    · exact .refl s
  · exact .refl s

end Sys2Proof.Machine

/-! ## ENGINE_RESET, ports and every step keep the laws of tool unit, commit log and link receiver -/

namespace Sys2Proof.Machine

theorem resetTool_keepsDesk (s : State) : KeepsDesk s (resetTool s) := by
  unfold resetTool
  split
  · rename_i commit
    exact .of_tool rfl rfl id id fun h => ⟨h.cap, fun _ => h.room (by rw [commit]; rfl), h.consecutive⟩
  · exact (toolResetEvent_keepsDesk _).after
      (.of_tool rfl rfl id id fun h => ⟨h.cap, fun resolving => (nomatch resolving), h.consecutive⟩)
  · exact toolResetEvent_keepsDesk s

theorem resetEngine_keepsDesk (s : State) : KeepsDesk s (resetEngine s) := by
  have desk : (resetEngine s).desk = (resetTool (resetLink { s with
      appNotices := s.appNotices.clear (BitVec.allOnes 14), engine := .resetting })).desk := by
    unfold resetEngine
    rw [arbitrate_desk, settleReset_desk, resetUpdate_desk, abortPick_desk, abortPick_desk, emptyCapture_desk,
      resetBuilder_desk]
  refine KeepsDesk.after (.of_desk desk) ((resetTool_keepsDesk _).after ((resetLink_keepsDesk _).after ?_))
  exact .of_desk rfl

theorem engineReset_keepsDesk (s : State) : KeepsDesk s (engineReset s) := by
  unfold engineReset
  split
  · exact resetEngine_keepsDesk s
  · exact .refl s

theorem command_keepsDesk (code : Half) (s : State) : KeepsDesk s (command code s) := by
  unfold command
  split
  · exact engineReset_keepsDesk s
  · exact linkRestart_keepsDesk s
  · exact .of_desk rfl
  · exact .of_desk (updateTeardown_desk s)
  · exact .of_desk rfl
  · exact commitPop_keepsDesk s
  · exact .refl s

/-- Of the application window's locations COMMAND and COMMIT_POP alone reach tool unit or receiver (R195). -/
theorem writeApp_keepsDesk (loc : Nat) (v : Word) (s : State) : KeepsDesk s (writeApp loc v s) := by
  unfold writeApp
  split_ifs
  · exact command_keepsDesk _ s
  · exact .of_desk (clearNotices_desk _ _ s)
  · exact .of_desk (enableNotices_desk _ _ s)
  · exact .of_desk (disableNotices_desk _ _ s)
  · exact .of_desk rfl
  · exact .of_desk (submit_frame _ s).desk
  · exact commitPop_keepsDesk s
  · split
    · exact .of_desk (writePick_desk _ _ _ s)
    · exact .refl s
  · exact .of_desk (staged_desk _ s)
  · exact .refl s

theorem KeepsDesk.accessed {s t : State} (h : KeepsDesk s t) (port : PortId) (loc : Nat) :
    KeepsDesk s (accessed port loc t) :=
  h.trans (.of_desk (accessed_desk port loc t))

theorem KeepsDesk.accessed_of {s t : State} (port : PortId) (loc : Nat) (same : t.desk = s.desk) :
    KeepsDesk s (Machine.accessed port loc t) :=
  (KeepsDesk.of_desk same).accessed port loc

theorem portWrite_keepsDesk (port : PortId) (address : PortAddr) (v : Word) (s : State) :
    KeepsDesk s (portWrite port address v s) := by
  cases port <;> cases address
  case app.index => exact .of_desk rfl
  case disp.index => exact .of_desk rfl
  case app.data => exact (writeApp_keepsDesk _ v s).accessed _ _
  case disp.data => exact .accessed_of _ _ (writeDisp_desk _ v s)

theorem powerOn_keepsDesk (s : State) : KeepsDesk s { State.reset with pending := s.pending } := by
  refine ⟨fun _ => (State.toolLaw_iff _).2 ⟨.empty _, .empty⟩, fun _ => (State.logLaw_iff _).2 ?_,
    fun _ => (State.linkLaw_iff _).2 ?_⟩
  · exact ⟨Nat.zero_le _, fun resolving => (nomatch resolving), trivial⟩
  · exact ⟨fun _ _ body => (nomatch body), ⟨Nat.zero_lt_succ _, fun _ => rfl⟩,
      ⟨fun inside => (nomatch inside), fun _ => rfl⟩, fun other => absurd rfl other, Nat.zero_le _, fun _ mem => (nomatch mem)⟩

/-- Every command keeps the laws of tool unit, commit log and link receiver. -/
theorem exec_keepsDesk (c : Instr) (s t : State) (run : exec c s = .next t) : KeepsDesk s t := by
  cases c <;> cases run
  case powerOn => exact powerOn_keepsDesk s
  case byteArrival time sound byte => exact takeByte_keepsDesk time sound byte s
  case gapExpiry time => exact gapExpires_keepsDesk time s
  case presenceExpiry time device => exact presenceExpires_keepsDesk time device s
  case engineReset => exact (engineReset_keepsDesk s).accessed _ _
  case linkRestart => exact (linkRestart_keepsDesk s).accessed _ _
  case apply => exact .accessed_of _ _ rfl
  case updateTeardown => exact .accessed_of _ _ (updateTeardown_desk s)
  case updateAck => exact .accessed_of _ _ rfl
  case commitPop => exact (commitPop_keepsDesk s).accessed _ _
  case submitHi value => exact .accessed_of _ _ (submit_frame value s).desk
  case fetchCompletion reply => exact fetchCompletes_keepsDesk reply s
  case tableGrant => exact tableGrant_keepsDesk s
  case cellApplication => exact cellApplies_keepsDesk s
  case writeBackCompletion handleError controlError =>
    exact .of_desk (writeBackCompletes_desk handleError controlError s)
  case markingCompletion busError => exact .of_desk (markingCompletes_desk busError s)
  case commitStart => exact tryCommitStart_keepsDesk s
  case resolutionEnd => exact resolutionEnds_keepsDesk s
  case buildStart => exact tryBuildStart_keepsDesk s
  case buildCompletion => exact .of_desk (completeBuild_desk s)
  case frameStart => exact .accessed_of _ _ (frameStart_desk s)
  case stream => exact .accessed_of _ _ (readStream_desk s)
  case streamRewind => exact .accessed_of _ _ rfl
  case stagedViewWrite field value => exact .accessed_of _ _ rfl
  case pickGo slot => exact .of_desk (writePickAt_desk slot .go 1 s)
  case pickBlockedWrite slot input value => exact .of_desk (writePickAt_desk slot input value s)
  case pickCompletion => exact pickCompletes_keepsDesk s
  case noticeRaw port value => exact .accessed_of _ _ (clearNotices_desk port value s)
  case enableSet port value => exact .accessed_of _ _ (enableNotices_desk port value s)
  case enableClear port value => exact .accessed_of _ _ (disableNotices_desk port value s)
  case dataRead port address => exact .of_desk (portRead_desk port address s)
  case registerWrite port address value => exact portWrite_keepsDesk port address value s

end Sys2Proof.Machine

namespace Sys2Proof.Claims

open Sys2Proof.Machine

/-- Settles O8: a command leaves receiver and tool unit as they are, or changes them by operations that keep their laws;
the record that a commit appends has the room that its refusal test found. -/
theorem everyStepKeepsToolLogAndLinkLaws : Obligations.EveryStepKeepsToolLogAndLinkLaws := by
  intro s t run
  have kept : KeepsDesk s t := by
    unfold step at run
    split at run
    · cases run
      exact .refl s
    · exact (exec_keepsDesk _ _ t run).after (.of_desk rfl)
  exact ⟨kept.tool, kept.log, kept.link⟩

end Sys2Proof.Claims

/-! ## COMMIT_START, the refusals, FINISH and CANCEL (R126 to R135, R139 to R142) -/

namespace Sys2Proof.Machine

open Sys2Proof.Claims

/-! ### The button taken (R126) -/

/-- The lowest bit of an entry's set is that of the button taken (R126). -/
theorem lowestButton_of_lowest (buttons : BitVec 4) (b : ButtonName)
    (pressed : buttons.getLsbD (buttonNumber b) = true)
    (lower : ∀ n, n < buttonNumber b → buttons.getLsbD n = false) : lowestButton buttons = some b := by
  have off : ∀ n, n < buttonNumber b → ¬ buttons.getLsbD n = true := fun n lower_n => by
    rw [lower n lower_n]
    exact Bool.false_ne_true
  unfold lowestButton
  cases b with
  | place => exact if_pos pressed
  | finish => exact (if_neg (off 0 (by decide))).trans (if_pos pressed)
  | cancel =>
    exact (if_neg (off 0 (by decide))).trans ((if_neg (off 1 (by decide))).trans (if_pos pressed))
  | aux =>
    exact (if_neg (off 0 (by decide))).trans ((if_neg (off 1 (by decide))).trans
      ((if_neg (off 2 (by decide))).trans (if_pos pressed)))

theorem exec_commitStart (s : State) : exec .commitStart s = .next (tryCommitStart s) := rfl

theorem tryCommitStart_idle (s : State)
    (idle : s.engine = .resetting ∨ s.link.queue = [] ∨ s.tool.commit ≠ none) : tryCommitStart s = s := by
  unfold tryCommitStart
  split
  · rename_i run noCommit queue
    rcases idle with resetting | empty | commit
    · cases run.symm.trans resetting
    · cases queue.symm.trans empty
    · exact absurd noCommit commit
  · rfl

/-- The tool unit takes the lowest button of the oldest entry and requests the table (R126). -/
theorem tryCommitStart_takes (s : State) (e : QueueEntry) (rest : List QueueEntry) (b : ButtonName)
    (queue : s.link.queue = e :: rest) (run : s.engine = .run) (noCommit : s.tool.commit = none)
    (lowest : lowestButton e.buttons = some b) :
    tryCommitStart s = request .commit (s.withTool { s.tool with commit := some ⟨e, b, true, false⟩ }) := by
  unfold tryCommitStart
  rw [run, noCommit, queue]
  dsimp only
  rw [lowest]

/-- A COMMIT request that finds the table free holds it, and leaves the round-robin position (R76). -/
theorem request_commit_alone (s : State) (free : s.arbiter.holder = none)
    (nobody : ∀ r, s.arbiter.waiting.get r = false) :
    request .commit s = { s with arbiter := { s.arbiter with holder := some .commit } } := by
  rw [request_alone .commit s free nobody]
  unfold grantTo
  rw [Requests.set_false _ _ (nobody .commit)]
  rfl

/-! ### The end of a commit in RUN (R126, R127) -/

theorem queueAfter_eq_handled (b : ButtonName) (queue : List QueueEntry) :
    queueAfter b queue = handled (buttonNumber b) queue := by
  have bit : b.bit = BitVec.ofNat 4 (2 ^ buttonNumber b) := by cases b <;> rfl
  cases queue with
  | nil => rfl
  | cons e rest =>
    unfold queueAfter handled
    rw [bit]

/-- What keeps an operation of the tool unit from being alone is neither in the tool unit nor in the table. -/
theorem quiet_congr {s t : State} (h : Quiet s) (engine : t.engine = s.engine)
    (apply : t.applyPending = s.applyPending) (arbiter : t.arbiter = s.arbiter) (update : t.update = s.update) :
    Quiet t := by
  obtain ⟨run, noApply, nobody, cells⟩ := h
  refine ⟨engine.trans run, apply.trans noApply, fun r => ?_, fun c => ?_⟩
  · rw [arbiter]
    exact nobody r
  · rw [State.stage, update]
    exact cells c

/-- With nothing else competing, the end of a commit handles its press and frees the table (R126, R127). -/
theorem endCommit_commitEnded (e : QueueEntry) (b : ButtonName) (resolving : Bool) (s : State) (quiet : Quiet s) :
    endCommit ⟨e, b, true, resolving⟩ s = commitEnded b s := by
  obtain ⟨run, noApply, nobody, cells⟩ := quiet
  rw [endCommit_quiet _ s run noApply nobody cells, if_pos rfl, queueAfter_eq_handled]
  rfl

/-- A record joins the log and the commit ends (R127, R141, R142). -/
theorem endCommit_logged (e : QueueEntry) (b : ButtonName) (resolving : Bool) (r : CommitRecord) (s : State)
    (quiet : Quiet s) : endCommit ⟨e, b, true, resolving⟩ (appendRecord r s) = commitEnded b (logged r s) :=
  endCommit_commitEnded e b resolving (logged r s) (quiet_congr quiet rfl rfl rfl rfl)

/-! ### TABLE_GRANT for a commit (R127 to R129) -/

theorem exec_tableGrant (s : State) : exec .tableGrant s = .next (tableGrant s) := rfl

/-- The commit under its grant begins (R127). -/
theorem tableGrant_granted_commit (s : State) (e : QueueEntry) (b : ButtonName) (h : GrantedCommit s e b) :
    tableGrant s = beginCommit ⟨e, b, true, false⟩ s := by
  obtain ⟨-, held, commit⟩ := h
  unfold tableGrant
  rw [arbitrate_held s .commit held]
  dsimp only
  rw [held]
  dsimp only
  unfold beginGrantedCommit
  rw [commit]

theorem beginCommit_refused (c : CommitInHand) (s : State) (n : AppNotice) (quiet : Quiet s)
    (refusal : commitRefusal c.button s = some n) : beginCommit c s = endCommit c (raiseApp n s) := by
  obtain ⟨-, noApply, -⟩ := quiet
  simp [beginCommit, noApply, refusal]

theorem beginCommit_accepted (c : CommitInHand) (s : State) (quiet : Quiet s)
    (passed : commitRefusal c.button s = none) : beginCommit c s = commitAccepted c s := by
  obtain ⟨-, noApply, -⟩ := quiet
  simp [beginCommit, noApply, passed]

theorem tableGrant_refused (s : State) (e : QueueEntry) (b : ButtonName) (n : AppNotice) (h : GrantedCommit s e b)
    (refusal : commitRefusal b s = some n) :
    exec .tableGrant s = .next (commitEnded b { s with appNotices := raised s.appNotices [(true, n)] }) := by
  obtain ⟨quiet, -, -⟩ := id h
  rw [exec_tableGrant, tableGrant_granted_commit s e b h]
  rw [beginCommit_refused _ s n quiet refusal, raiseApp_eq_raised, endCommit_commitEnded]
  exact quiet_congr quiet rfl rfl rfl rfl

theorem tableGrant_accepted (s : State) (e : QueueEntry) (b : ButtonName) (h : GrantedCommit s e b)
    (passed : commitRefusal b s = none) : exec .tableGrant s = .next (commitAccepted ⟨e, b, true, false⟩ s) := by
  obtain ⟨quiet, -, -⟩ := id h
  rw [exec_tableGrant, tableGrant_granted_commit s e b h]
  rw [beginCommit_accepted _ s quiet passed]

/-- The link is worse than TRACKING from the counter value 128 on (R33). -/
theorem Link.state_ne_tracking_iff (l : Link) : l.state ≠ .tracking ↔ 128 ≤ l.errors.toNat := by
  rw [Link.state, linkStateOf_eq]
  split_ifs with below
  · exact ⟨fun other => absurd rfl other, fun above => absurd below (Nat.not_lt.2 above)⟩
  · exact ⟨fun _ => Nat.not_lt.1 below, fun _ => by decide⟩
  · exact ⟨fun _ => Nat.not_lt.1 below, fun _ => by decide⟩

theorem commitRefusal_logFull (b : ButtonName) (s : State) (full : 16 ≤ s.tool.log.length) :
    commitRefusal b s = some .logFull := if_pos full

theorem commitRefusal_refused (b : ButtonName) (s : State) (room : s.tool.log.length < 16)
    (worse : 128 ≤ s.link.errors.toNat) (notCancel : b ≠ .cancel) : commitRefusal b s = some .commitRefused :=
  (if_neg (Nat.not_le.2 room)).trans (if_pos ⟨s.link.state_ne_tracking_iff.2 worse, notCancel⟩)

theorem commitRefusal_passed (b : ButtonName) (s : State) (room : s.tool.log.length < 16)
    (passes : b = .cancel ∨ s.link.errors.toNat < 128) : commitRefusal b s = none := by
  refine (if_neg (Nat.not_le.2 room)).trans (if_neg fun refused => ?_)
  obtain ⟨worse, notCancel⟩ := refused
  exact passes.elim notCancel (Nat.not_lt.2 (s.link.state_ne_tracking_iff.1 worse))

/-! ### FINISH and CANCEL (R134, R135) -/

/-- A change of context or figure requests a rebuild (R139). -/
theorem putContext_eq_pressed (ctx : ToolContext) (d : Drag) (s : State) : putContext ctx d s = pressed ctx d s := by
  rw [putContext_eq]
  unfold pressed
  rw [Bool.or_assoc]

/-- The record of a FINISH or a CANCEL, without S (R134, R135, R140). -/
def pointlessRecord (kind : RecordKind) (tool : Tool) (e : QueueEntry) (completes : Bool) : CommitRecord :=
  { seq := 0, kind := kind, tool := tool, count := 0, s := none, feature := .none, index := 0, target := none,
    learned := none, r := e.r, report := e.report, menu := none, learnSkipped := false, completes := completes }

theorem commitWithoutPoint_eq (e : QueueEntry) (b : ButtonName) (kind : RecordKind) (d : Drag) (completes : Bool)
    (s : State) (quiet : Quiet s) :
    commitWithoutPoint ⟨e, b, true, false⟩ kind ⟨ToolContext.empty, d, completes, false⟩ s =
      commitEnded b (logged (pointlessRecord kind s.active.toolInForce e completes)
        (pressed ToolContext.empty d s)) := by
  unfold commitWithoutPoint
  dsimp only
  rw [endCommit_logged]
  · rw [putContext_eq_pressed]
    rfl
  · exact quiet_congr quiet rfl rfl rfl rfl

end Sys2Proof.Machine

namespace Sys2Proof.Claims

open Sys2Proof.Machine

/-- Settles O46: the conditions of a start, then its request to a free table and to a held one. -/
theorem commitStartTakesTheLowestButton : Obligations.CommitStartTakesTheLowestButton := by
  refine fun s => ⟨fun idle => ?_, fun e rest b queue run noCommit pressed lower => ?_⟩
  · rw [exec_commitStart, tryCommitStart_idle s idle]
  · have lowest := lowestButton_of_lowest e.buttons b pressed lower
    rw [exec_commitStart, tryCommitStart_takes s e rest b queue run noCommit lowest]
    refine ⟨fun free nobody => ?_, fun held => ?_⟩
    · exact congrArg Host.Outcome.next (request_commit_alone (s.withTool _) free nobody)
    · obtain ⟨x, held⟩ := Option.ne_none_iff_exists'.1 held
      exact congrArg Host.Outcome.next (request_held .commit x (s.withTool _) held)

/-- Settles O47, by the test that the commit fails first. -/
theorem refusedCommitIsRefusedWhole : Obligations.RefusedCommitIsRefusedWhole := fun s e b granted =>
  ⟨fun full => tableGrant_refused s e b _ granted (commitRefusal_logFull b s full),
    fun room worse notCancel => tableGrant_refused s e b _ granted (commitRefusal_refused b s room worse notCancel)⟩

/-- Settles O48, for CANCEL under every link state and for FINISH under TRACKING. -/
theorem finishAndCancelClearTheFigure : Obligations.FinishAndCancelClearTheFigure := by
  intro s e b granted room button
  rw [tableGrant_accepted s e b granted (commitRefusal_passed b s room (button.imp id And.right))]
  obtain ⟨quiet, -, -⟩ := granted
  rcases button with rfl | ⟨rfl, -⟩
  · exact congrArg Host.Outcome.next (commitWithoutPoint_eq e .cancel .cancel _ _ s quiet)
  · exact congrArg Host.Outcome.next (commitWithoutPoint_eq e .finish .finish _ _ s quiet)

end Sys2Proof.Claims

/-! ## Window decoding, and the press that is granted (R46 to R51, R100, R130, R137) -/

namespace Sys2Proof.Machine

open Sys2Proof.Claims

theorem MenuWindow.contains_iff (w : MenuWindow) (p : TabletPoint) :
    w.contains p = true ↔ w.x0.toNat ≤ p.x.toNat ∧ p.x.toNat < w.x0.toNat + w.columns.toNat * w.width.toNat ∧
      w.y0.toNat ≤ p.y.toNat ∧ p.y.toNat < w.y0.toNat + w.rows.toNat * w.height.toNat := by
  simp [MenuWindow.contains, and_assoc]

theorem MenuWindow.windowMode_off (w : MenuWindow) (off : w.mode = 0) : windowMode w.mode = none := by
  rw [off]
  rfl

/-- A window that is not OFF decodes to the mode its setting names (R46). -/
theorem MenuWindow.windowMode_on (w : MenuWindow) (on : w.mode ≠ 0) : windowMode w.mode = some (modeNamed w) := by
  unfold windowMode modeNamed
  split
  · rename_i zero
    exact absurd (BitVec.eq_of_toNat_eq zero) on
  · rename_i one
    rw [if_pos (BitVec.eq_of_toNat_eq one)]
  · rename_i two
    have is : w.mode = 2 := BitVec.eq_of_toNat_eq two
    rw [is]
    rfl
  · rename_i notOne notTwo
    rw [if_neg fun one => notOne (by rw [one]; rfl), if_neg fun two => notTwo (by rw [two]; rfl)]

theorem MenuWindow.claim_claimed (w : MenuWindow) (id : MenuId) (p : TabletPoint) (claimed : ClaimedBy w p) :
    w.claim id p = some ⟨modeNamed w, some (id, cellUnder w p)⟩ := by
  obtain ⟨on, inside⟩ := claimed
  unfold MenuWindow.claim
  rw [w.windowMode_on on]
  exact if_pos ((w.contains_iff p).2 inside)

theorem MenuWindow.claim_unclaimed (w : MenuWindow) (id : MenuId) (p : TabletPoint) (unclaimed : ¬ ClaimedBy w p) :
    w.claim id p = none := by
  unfold MenuWindow.claim
  by_cases off : w.mode = 0
  · rw [w.windowMode_off off]
  · rw [w.windowMode_on off]
    exact if_neg fun inside => unclaimed ⟨off, (w.contains_iff p).1 inside⟩

/-- Window A comes first, then window B; a position that neither claims is NORMAL (R48, R49). -/
theorem decodeWindow_by_claim (st : Settings) (p : TabletPoint) :
    (ClaimedBy st.windowA p → decodeWindow st p = ⟨modeNamed st.windowA, some (.a, cellUnder st.windowA p)⟩) ∧
    (¬ ClaimedBy st.windowA p → ClaimedBy st.windowB p →
      decodeWindow st p = ⟨modeNamed st.windowB, some (.b, cellUnder st.windowB p)⟩) ∧
    (¬ ClaimedBy st.windowA p → ¬ ClaimedBy st.windowB p → decodeWindow st p = ⟨.normal, none⟩) := by
  unfold decodeWindow
  refine ⟨fun a => ?_, fun notA b => ?_, fun notA notB => ?_⟩
  · rw [st.windowA.claim_claimed .a p a]
  · rw [st.windowA.claim_unclaimed .a p notA, st.windowB.claim_claimed .b p b]
    rfl
  · rw [st.windowA.claim_unclaimed .a p notA, st.windowB.claim_unclaimed .b p notB]
    rfl

theorem emptyCapture_idle (s : State) (idle : s.resolver.resolution = none) :
    emptyCapture s = { s with resolver := { s.resolver with capture := none } } := if_pos idle

/-- A press over a menu cell makes a record without a resolution, and empties the capture (R51, R137). -/
theorem commitMenuPick_eq (e : QueueEntry) (b : ButtonName) (w : MenuId) (cell : BitVec 8) (s : State)
    (quiet : Quiet s) (idle : s.resolver.resolution = none) :
    commitMenuPick ⟨e, b, true, false⟩ w cell s =
      commitEnded b (logged
        { seq := 0, kind := .menuPick, tool := s.active.toolInForce, count := s.tool.context.count, s := none
          feature := .none, index := 0, target := none, learned := none, r := e.r, report := e.report
          menu := some ⟨w, cell, b == .aux⟩, completes := false, learnSkipped := false }
        { s with resolver := { s.resolver with capture := none } }) := by
  unfold commitMenuPick
  dsimp only
  rw [endCommit_logged]
  · rw [emptyCapture_idle s idle]
    rfl
  · rw [emptyCapture_idle s idle]
    exact quiet_congr quiet rfl rfl rfl rfl

theorem constraintAnchor_eq_anchorOf (tool : Tool) (ctx : ToolContext) (d : Drag) :
    constraintAnchor tool ctx d = anchorOf tool ctx d := by
  cases tool <;> rfl

/-- Outside the menu cells a press starts its resolution (R100, R101, R130). -/
theorem commitResolution_eq (e : QueueEntry) (b : ButtonName) (mode : Mode) (s : State) :
    commitResolution ⟨e, b, true, false⟩ mode s =
      { s with
        tool := { s.tool with commit := some ⟨e, b, true, true⟩ }
        resolver := ⟨s.resolver.capture, s.resolver.emptying,
          some ⟨cursorPoint s.active s.builder.view e.f, mode, s.active, s.builder.view.scale,
            anchorOf s.active.toolInForce s.tool.context s.tool.drag, s.resolver.capture⟩⟩ } := by
  unfold commitResolution
  dsimp only
  rw [startResolution_eq, constraintAnchor_eq_anchorOf]
  rfl

theorem commitPoint_menu (c : CommitInHand) (s : State) (w : MenuId) (cell : BitVec 8)
    (menu : decodeWindow s.active c.entry.f = ⟨.menu, some (w, cell)⟩) :
    commitPoint c s = commitMenuPick c w cell s := by
  unfold commitPoint
  rw [menu]

theorem commitPoint_resolves (c : CommitInHand) (s : State)
    (noMenu : (decodeWindow s.active c.entry.f).mode ≠ .menu) :
    commitPoint c s = commitResolution c (decodeWindow s.active c.entry.f).mode s := by
  unfold commitPoint
  split
  · rename_i w cell menu
    exact absurd (congrArg Decoding.mode menu) noMenu
  · rename_i mode window _ decoding
    rw [decoding]

theorem commitAccepted_point (e : QueueEntry) (b : ButtonName) (s : State) (point : b = .place ∨ b = .aux) :
    commitAccepted ⟨e, b, true, false⟩ s = commitPoint ⟨e, b, true, false⟩ s := by
  rcases point with rfl | rfl
  · rfl
  · rfl

end Sys2Proof.Machine

namespace Sys2Proof.Claims

open Sys2Proof.Machine

/-- Settles O49: the decoding by the windows' claims, then the press by its decoding's mode. -/
theorem grantedPressPicksAMenuCellOrResolves : Obligations.GrantedPressPicksAMenuCellOrResolves := by
  refine ⟨decodeWindow_by_claim, fun s e b granted room tracking point => ?_⟩
  rw [tableGrant_accepted s e b granted (commitRefusal_passed b s room (.inr tracking)),
    commitAccepted_point e b s point]
  obtain ⟨quiet, -, -⟩ := granted
  refine ⟨fun w cell menu idle => ?_, fun noMenu => ?_⟩
  · rw [commitPoint_menu ⟨e, b, true, false⟩ s w cell menu, commitMenuPick_eq e b w cell s quiet idle]
  · rw [commitPoint_resolves ⟨e, b, true, false⟩ s noMenu, commitResolution_eq]

end Sys2Proof.Claims

/-! ## RESOLUTION_END for a press, in RUN and in RESETTING (R113, R114, R127, R131 to R145) -/

namespace Sys2Proof.Machine

open Sys2Proof.Claims

/-- The vertex count of a POLYLINE after a PLACE saturates at 255 (R133). -/
theorem vertexCount_eq (count : BitVec 8) :
    (if count = 255 then 255 else count + 1) = BitVec.ofNat 8 (min 255 (count.toNat + 1)) := by
  have ceiling := count.isLt
  split
  · rename_i full
    rw [full]
    rfl
  · rename_i below
    have fits : count.toNat + 1 ≤ 255 := by
      have : count.toNat ≠ 255 := fun e => below (BitVec.eq_of_toNat_eq e)
      omega
    rw [Nat.min_eq_right fits, BitVec.ofNat_add, BitVec.ofNat_toNat, BitVec.setWidth_eq]
    rfl

/-- A PLACE acts by the row of its tool and leaves the figure (the table of section 7.3). -/
theorem placeEffect_eq_placeRow (tool : Tool) (ctx : ToolContext) (d : Drag) (p : Point) :
    placeEffect tool ctx d p =
      ⟨(placeRow tool ctx d p).1, d, (placeRow tool ctx d p).2.1, (placeRow tool ctx d p).2.2⟩ := by
  cases tool with
  | none => rfl
  | move => rfl
  | line =>
    simp only [placeEffect, placeTwoPoint, placeRow]
    split <;> rfl
  | rect =>
    simp only [placeEffect, placeTwoPoint, placeRow]
    split <;> rfl
  | circle =>
    simp only [placeEffect, placeTwoPoint, placeRow]
    split <;> rfl
  | polyline =>
    simp only [placeEffect, placePolyline, placeRow, vertexCount_eq]
    split <;> rfl

theorem exec_resolutionEnd (s : State) : exec .resolutionEnd s = .next (resolutionEnds s) := rfl

/-- The resolution of the commit under its grant ends the commit with its result (R120, R130). -/
theorem resolutionEnds_commit (s : State) (e : QueueEntry) (b : ButtonName) (queued : Bool) (i : ResolutionInputs)
    (held : s.arbiter.holder = some .commit) (commit : s.tool.commit = some ⟨e, b, queued, true⟩)
    (resolution : s.resolver.resolution = some i) :
    resolutionEnds s =
      finishCommit ⟨e, b, queued, true⟩ (resolve i s.table) (endResolution (resolve i s.table) s) := by
  unfold resolutionEnds
  rw [resolution]
  dsimp only [endResolution_arbiter]
  rw [held]
  dsimp only
  unfold endCommitResolution
  rw [show (endResolution (resolve i s.table) s).tool.commit = _ from commit]

/-- The record of an AUX (R136, R140). -/
def auxRecord (e : QueueEntry) (r : Resolution) (s : State) : CommitRecord :=
  { seq := 0, kind := .aux, tool := s.active.toolInForce, count := s.tool.context.count, s := some r.s
    feature := r.feature, index := r.index, target := r.handle, learned := none, r := e.r, report := e.report
    menu := none, completes := false, learnSkipped := false }

/-- The learning of a PLACE: that of its point when its row asks for it, or none (R71, R138). -/
def rowLearns (r : Resolution) (s : State) : LearnOutcome :=
  if (placeRow s.active.toolInForce s.tool.context s.tool.drag r.s).2.2 then
    s.table.learn s.active.learnCap.toNat s.active.learnTag r.s
  else ⟨s.table, none, false⟩

theorem rowLearns_table (r : Resolution) (s : State) :
    (rowLearns r s).table =
      if (placeRow s.active.toolInForce s.tool.context s.tool.drag r.s).2.2 = true then
        (s.table.learn s.active.learnCap.toNat s.active.learnTag r.s).table
      else s.table := by
  unfold rowLearns
  split <;> rfl

/-- The record of a PLACE (R131 to R133, R138, R140). -/
def placeRecord (e : QueueEntry) (r : Resolution) (s : State) : CommitRecord :=
  let row := placeRow s.active.toolInForce s.tool.context s.tool.drag r.s
  { auxRecord e r s with
    kind := .place, count := row.1.count, learned := (rowLearns r s).handle, completes := row.2.1
    learnSkipped := (rowLearns r s).skipped }

/-- Context and table after a PLACE, before its record (R131 to R133, R138, R139). -/
def placedState (r : Resolution) (s : State) : State :=
  let placed := pressed (placeRow s.active.toolInForce s.tool.context s.tool.drag r.s).1 s.tool.drag s
  { placed with
    table := (rowLearns r s).table
    builder := { placed.builder with
      rebuild := placed.builder.rebuild || (rowLearns r s).table.generation != s.table.generation } }

theorem finishAux_eq (c : CommitInHand) (r : Resolution) (s : State) :
    finishAux c r s = endCommit c (appendRecord (auxRecord c.entry r s) s) := rfl

theorem finishPlace_eq (c : CommitInHand) (r : Resolution) (s : State) :
    finishPlace c r s = endCommit c (appendRecord (placeRecord c.entry r s) (placedState r s)) := by
  unfold finishPlace
  dsimp only
  rw [placeEffect_eq_placeRow, putContext_eq_pressed]
  rfl

/-- With no commit left the engine returns to RUN exactly when no list is in flight (R183). -/
theorem settleReset_commitEnded (s : State) (resetting : s.engine = .resetting) (noCommit : s.tool.commit = none) :
    settleReset s =
      { s with
        engine := if s.update.inFlight = none then .run else .resetting
        appNotices := raised s.appNotices [(s.update.inFlight.isNone, .resetDone)] } := by
  unfold settleReset
  cases flight : s.update.inFlight with
  | none =>
    rw [if_pos ⟨resetting, rfl, noCommit⟩, raiseApp_eq_raised]
    rfl
  | some f =>
    rw [if_neg (fun ended => nomatch ended.2.1), if_neg (Option.some_ne_none f), ← resetting, Option.isNone_some,
      raised_false_cons, raised_nil]

/-- The tool unit's reset event clears context, figure and log and requests a rebuild (R145). -/
theorem toolResetEvent_eq (s : State) :
    toolResetEvent s =
      { s with
        tool := ⟨ToolContext.empty, Drag.empty, s.tool.commit, [], s.tool.sequence⟩
        builder := { s.builder with rebuild := true } } := by
  simp [toolResetEvent, requestRebuild, requestRebuildIf, State.withTool]

/-- The end in RESETTING of a commit that left the queue: the reset's event is made, the engine returns to RUN when no list
is left, and the table is freed (R126, R145, R183; log 11). -/
theorem endCommit_in_reset (e : QueueEntry) (b : ButtonName) (s : State) (resetting : s.engine = .resetting)
    (cells : ∀ c, s.stage ≠ some (.waiting c)) (noApply : s.applyPending = false)
    (nobody : ∀ r, s.arbiter.waiting.get r = false) :
    endCommit ⟨e, b, false, true⟩ s =
      { s with
        engine := if s.update.inFlight = none then .run else .resetting
        appNotices := raised s.appNotices [(s.update.inFlight.isNone, .resetDone)]
        tool := ⟨ToolContext.empty, Drag.empty, none, [], s.tool.sequence⟩
        builder := { s.builder with rebuild := true }
        arbiter := { s.arbiter with holder := none } } := by
  have still : applyWaitingDrag (s.withTool { s.tool with commit := none }) = s.withTool { s.tool with commit := none } :=
    applyWaitingDrag_none _ cells
  have left : commitLeft ⟨e, b, false, true⟩ s =
      settleReset (toolResetEvent (s.withTool { s.tool with commit := none })) := by
    unfold commitLeft
    dsimp only
    rw [show handlePress ⟨e, b, false, true⟩ (s.withTool { s.tool with commit := none }) =
      s.withTool { s.tool with commit := none } from rfl, still]
    exact congrArg settleReset (if_pos resetting)
  rw [endCommit_eq_releaseGrant, left, settleReset_commitEnded, toolResetEvent_eq, releaseGrant_nobody]
  · rfl
  · exact .inr noApply
  · exact nobody
  · exact resetting
  · rfl

end Sys2Proof.Machine

namespace Sys2Proof.Claims

open Sys2Proof.Machine

/-- Settles O50: the resolution's end is the end of the commit after its record, with the effect of its button. -/
theorem resolvedPressMakesItsRecord : Obligations.ResolvedPressMakesItsRecord := by
  refine ⟨fun s e b i law resetting held commit resolution point noApply nobody => ?_,
    fun s e b i resolving => ?_⟩
  · obtain ⟨cells, -, finishing, -⟩ := law.stoppedLaw resetting
    obtain ⟨-, -, emptying⟩ := finishing _ commit
    have waits : ∀ c, s.stage ≠ some (.waiting c) := fun c => (cells c).1
    have ended : ∀ r, endResolution r s = { s with resolver := ⟨none, false, none⟩ } := fun r => by
      rw [endResolution_eq, if_pos emptying]
    rw [exec_resolutionEnd, resolutionEnds_commit s e b false i held commit resolution, ended]
    generalize resolve i s.table = r
    rcases point with rfl | rfl
    · have learns := rowLearns_table r s
      show Host.Outcome.next (finishPlace _ _ _) = _
      rw [finishPlace_eq, endCommit_in_reset]
      · simp only [true_and]
        rw [← learns]
        rfl
      · exact resetting
      · exact waits
      · exact noApply
      · exact nobody
    · show Host.Outcome.next (finishAux _ _ _) = _
      rw [finishAux_eq, endCommit_in_reset]
      · rfl
      · exact resetting
      · exact waits
      · exact noApply
      · exact nobody
  · obtain ⟨quiet, held, commit, resolution⟩ := resolving
    rw [exec_resolutionEnd, resolutionEnds_commit s e b true i held commit resolution]
    generalize resolve i s.table = r
    refine ⟨?_, ?_⟩
    · rintro rfl
      show Host.Outcome.next (finishAux _ _ _) = _
      rw [finishAux_eq, endCommit_logged]
      · rfl
      · exact quiet_congr quiet rfl rfl rfl rfl
    · rintro rfl
      show Host.Outcome.next (finishPlace _ _ _) = _
      rw [finishPlace_eq, endCommit_logged]
      · rfl
      · exact quiet_congr quiet rfl rfl rfl rfl

end Sys2Proof.Claims

/-! ## COMMIT_POP (R144) -/

namespace Sys2Proof.Machine

open Sys2Proof.Claims

/-- The oldest record leaves the log and INDEX stands at the location written (R144, R179). -/
theorem exec_commitPop (path : PopPath) (s : State) :
    exec (.commitPop path) s = .next { s with
      tool := { s.tool with log := s.tool.log.drop 1 }
      ports := { s.ports with appIndex := if path = .command then 0 else 0x5D } } := by
  cases path <;> rfl

end Sys2Proof.Machine

namespace Sys2Proof.Claims

open Sys2Proof.Machine

/-- Settles O51: taking the oldest of the records, of one appended to none, and of one appended behind others. -/
theorem commitPopRemovesTheOldestRecord : Obligations.CommitPopRemovesTheOldestRecord := by
  refine fun s path => ⟨fun empty => ⟨?_, fun r => ⟨_, exec_commitPop path _, ?_⟩⟩, fun r rest log => ⟨?_, fun new => ?_⟩⟩
  · have still : { s.tool with log := s.tool.log.drop 1 } = s.tool := by
      rw [empty, List.drop_nil, ← empty]
    rw [exec_commitPop, still]
  · show (s.tool.log ++ [_]).drop 1 = []
    rw [empty]
    rfl
  · rw [exec_commitPop, log]
    rfl
  · have behind : (logged new s).tool.log.drop 1 = rest ++ [{ new with seq := s.tool.sequence + 1 }] := by
      show (s.tool.log ++ [_]).drop 1 = _
      rw [log]
      rfl
    rw [exec_commitPop, behind]
    rfl

end Sys2Proof.Claims

/-! ## The frame banks by their numbers (R148, R154, R163 to R167) -/

namespace Sys2Proof.Machine

/-! ### Counting banks -/

theorem countBanks_eq_card (banks : Vector Bank 3) (st : BankState) :
    countBanks banks st = (Finset.univ.filter fun i : Fin 3 => (banks[i]).state = st).card := by
  obtain ⟨a, b, c, rfl⟩ : ∃ a b c, banks = #v[a, b, c] := ⟨banks[0], banks[1], banks[2], by
    ext i h : 1
    interval_cases i <;> rfl⟩
  rw [Finset.card_filter, Fin.sum_univ_three]
  show List.countP _ [a, b, c] = (if a.state = st then 1 else 0) + (if b.state = st then 1 else 0)
    + if c.state = st then 1 else 0
  simp only [List.countP_cons, beq_iff_eq, List.countP_nil]
  omega

theorem countBanks_eq_one_iff (banks : Vector Bank 3) (st : BankState) :
    countBanks banks st = 1 ↔ ∃ i : Fin 3, ∀ j : Fin 3, (banks[j]).state = st ↔ j = i := by
  rw [countBanks_eq_card, Finset.card_eq_one]
  simp only [Finset.ext_iff, Finset.mem_filter_univ, Finset.mem_singleton]

theorem countBanks_le_one_iff (banks : Vector Bank 3) (st : BankState) :
    countBanks banks st ≤ 1 ↔ ∀ i j : Fin 3, (banks[i]).state = st → (banks[j]).state = st → i = j := by
  rw [countBanks_eq_card, Finset.card_le_one]
  simp only [Finset.mem_filter_univ]
  exact ⟨fun h i j hi hj => h i hi j hj, fun h i hi j hj => h i j hi hj⟩

/-! ### The SHOWN bank -/

/-- The words the stream has of a bank (R167). -/
def Bank.streamed (b : Bank) : List Word := (upToEnd b.entries).flatMap Entry.words

/-- The stream has the words of the one SHOWN bank (R167). -/
theorem shownWords_eq (b : Builder) (i : Fin 3) (shown : ∀ j : Fin 3, (b.banks[j]).state = .shown ↔ j = i) :
    shownWords b = (b.banks[i]).streamed := by
  unfold shownWords shownEntries
  split
  · rename_i bank found
    obtain ⟨j, inBanks, rfl⟩ := Vector.mem_iff_getElem.1 (Vector.mem_toList_iff.1 (List.mem_of_find?_eq_some found))
    have isShown := List.find?_some found
    have same : (⟨j, inBanks⟩ : Fin 3) = i := (shown ⟨j, inBanks⟩).1 (beq_iff_eq.1 isShown)
    subst same
    rfl
  · rename_i absent
    have isShown := List.find?_eq_none.1 absent b.banks[i] (Vector.mem_toList_iff.2 (Vector.getElem_mem i.isLt))
    exact absurd ((shown i).2 rfl) (fun e => isShown (beq_iff_eq.2 e))

/-! ### The law of the banks, bank by bank -/

/-- The law of the banks with the number of the SHOWN one (R164, R167). -/
structure Builder.Shows (b : Builder) (i : Fin 3) : Prop where
  shown : ∀ j : Fin 3, (b.banks[j]).state = .shown ↔ j = i
  ready : ∀ j k : Fin 3, (b.banks[j]).state = .ready → (b.banks[k]).state = .ready → j = k
  building : ∀ j : Fin 3, (b.banks[j]).state = .building ↔ b.build.map Build.bank = some j
  stream : b.streamPtr ≤ (b.banks[i]).streamed.length

theorem Builder.banksLaw_iff (b : Builder) : b.BanksLaw ↔ ∃ i, b.Shows i := by
  constructor
  · intro h
    obtain ⟨i, shown⟩ := (countBanks_eq_one_iff b.banks .shown).1 h.shown
    exact ⟨i, shown, (countBanks_le_one_iff b.banks .ready).1 h.ready, h.building, shownWords_eq b i shown ▸ h.stream⟩
  · rintro ⟨i, h⟩
    refine ⟨(countBanks_eq_one_iff _ _).2 ⟨i, h.shown⟩, (countBanks_le_one_iff _ _).2 h.ready, h.building, ?_⟩
    rw [shownWords_eq b i h.shown]
    exact h.stream

/-! ### The banks after each of the builder's operations -/

theorem setBankState_getElem (banks : Vector Bank 3) (i j : Fin 3) (st : BankState) :
    (setBankState banks i st)[j] = if j = i then { banks[j] with state := st } else banks[j] := by
  unfold setBankState
  rw [Fin.getElem_fin, Vector.getElem_set]
  by_cases same : j = i
  · subst same
    simp
  · simp [same, Fin.val_inj, Ne.symm same]

/-- The lowest FREE bank is FREE (R148). -/
theorem freeBank_free (banks : Vector Bank 3) (i : Fin 3) (h : freeBank banks = some i) : (banks[i]).state = .free := by
  unfold freeBank at h
  exact beq_iff_eq.1 (List.find?_some h :)

/-- The banks after a completion, bank by bank (R154, R163). -/
theorem banksCompleted_getElem (banks : Vector Bank 3) (i j : Fin 3) (entries : List Entry) :
    (banksCompleted banks i entries)[j] =
      if j = i then ⟨.ready, overwrite (banks[j]).entries entries⟩
      else if (banks[j]).state = .ready then { banks[j] with state := .free } else banks[j] := by
  unfold banksCompleted
  dsimp only
  rw [Fin.getElem_fin, Vector.getElem_set]
  by_cases same : j = i
  · subst same
    rw [if_pos rfl, if_pos rfl, Vector.getElem_map]
    split <;> rfl
  · rw [if_neg (fun e => same (Fin.ext e.symm)), if_neg same, Vector.getElem_map]
    rfl

theorem hasReady_iff (banks : Vector Bank 3) : hasReady banks = true ↔ ∃ i : Fin 3, (banks[i]).state = .ready := by
  unfold hasReady
  rw [List.any_eq_true]
  constructor
  · rintro ⟨bank, mem, ready⟩
    obtain ⟨i, inBanks, rfl⟩ := Vector.mem_iff_getElem.1 (Vector.mem_toList_iff.1 mem)
    exact ⟨⟨i, inBanks⟩, beq_iff_eq.1 ready⟩
  · rintro ⟨i, ready⟩
    exact ⟨banks[i], Vector.mem_toList_iff.2 (Vector.getElem_mem i.isLt), beq_iff_eq.2 ready⟩

/-- The banks after a frame start with a READY bank, bank by bank (R166). -/
theorem rotated_getElem (banks : Vector Bank 3) (j : Fin 3) :
    (rotated banks)[j] = { banks[j] with state :=
      if (∃ i : Fin 3, (banks[i]).state = .ready) then
        if (banks[j]).state = .ready then .shown
        else if (banks[j]).state = .shown then .free else (banks[j]).state
      else (banks[j]).state } := by
  simp only [← hasReady_iff]
  unfold rotated
  split
  · rw [Fin.getElem_fin, Vector.getElem_map]
    rcases banks[j.val] with ⟨st, entries⟩
    cases st <;> rfl
  · rfl

end Sys2Proof.Machine

/-! ## The ranges at an apply and at a view's commit (R8, R166, R186) -/

namespace Sys2Proof.Machine

theorem clampHalf_inRange (lo hi : Nat) (v : Half) (ordered : lo ≤ hi) (fits : hi < 65536) :
    inRange lo hi (clampHalf lo hi v) := by
  unfold inRange clampHalf
  split_ifs
  · rw [BitVec.toNat_ofNat, Nat.mod_eq_of_lt (by omega)]
    exact ⟨le_refl lo, ordered⟩
  · rw [BitVec.toNat_ofNat, Nat.mod_eq_of_lt (by omega)]
    exact ⟨ordered, le_refl hi⟩
  · omega

theorem clampInt_bounds (lo hi v : Int) (ordered : lo ≤ hi) : lo ≤ clampInt lo hi v ∧ clampInt lo hi v ≤ hi := by
  unfold clampInt
  split_ifs <;> omega

theorem clampChords_cases (v : Half) : clampChords v = 16 ∨ clampChords v = 32 ∨ clampChords v = 64 := by
  unfold clampChords
  split_ifs
  · exact .inl rfl
  · exact .inr (.inl rfl)
  · exact .inr (.inr rfl)

/-- A saturated grid origin fits its word (R6, R186). -/
theorem signedWord_sat_inWorld (v : Int) : inWorld (signedWord (sat v)).toInt = true := by
  have bounds := (inWorld_iff _).1 (sat_inWorld v)
  unfold signedWord
  rw [BitVec.toInt_ofInt, Int.bmod_eq_of_le (by omega) (by omega)]
  exact sat_inWorld v

theorem MenuWindow.clamped_legal (w : MenuWindow) : w.clamped.Legal where
  mode := clampHalf_inRange _ _ _ (by decide) (by decide)
  x0 := clampHalf_inRange _ _ _ (by decide) (by decide)
  y0 := clampHalf_inRange _ _ _ (by decide) (by decide)
  width := clampHalf_inRange _ _ _ (by decide) (by decide)
  height := clampHalf_inRange _ _ _ (by decide) (by decide)
  columns := clampHalf_inRange _ _ _ (by decide) (by decide)
  rows := clampHalf_inRange _ _ _ (by decide) (by decide)

/-- A tool code that is not held is one of the six (R124, R186). -/
theorem toolHeld_false (code : Half) (named : toolHeld code = false) : inRange 0 5 code := by
  refine ⟨Nat.zero_le _, ?_⟩
  unfold toolHeld toolOf at named
  split at named
  case h_7 => cases named
  all_goals omega

/-- The settings that an apply makes active are legal when the tool in force was (R186). -/
theorem Settings.clamped_legal (st : Settings) (activeTool : Half) (legal : inRange 0 5 activeTool) :
    (st.clamped activeTool).Legal where
  originX := clampHalf_inRange _ _ _ (by decide) (by decide)
  originY := clampHalf_inRange _ _ _ (by decide) (by decide)
  gainX := clampHalf_inRange _ _ _ (by decide) (by decide)
  gainY := clampHalf_inRange _ _ _ (by decide) (by decide)
  holdBand := clampHalf_inRange _ _ _ (by decide) (by decide)
  debounce := clampHalf_inRange _ _ _ (by decide) (by decide)
  activeDevice := clampHalf_inRange _ _ _ (by decide) (by decide)
  presenceTimeout := clampHalf_inRange _ _ _ (by decide) (by decide)
  linkRate := clampHalf_inRange _ _ _ (by decide) (by decide)
  tool := by
    show inRange 0 5 (if toolHeld st.tool then activeTool else st.tool)
    split
    · exact legal
    · exact toolHeld_false st.tool (Bool.eq_false_iff.2 ‹_›)
  constraint := clampHalf_inRange _ _ _ (by decide) (by decide)
  closeHint := clampHalf_inRange _ _ _ (by decide) (by decide)
  enables := by
    refine ⟨Nat.zero_le _, ?_⟩
    show (st.enables &&& 0x7F).toNat ≤ 127
    rw [BitVec.toNat_and]
    exact Nat.and_le_right
  aperture := clampHalf_inRange _ _ _ (by decide) (by decide)
  release := clampHalf_inRange _ _ _ (by decide) (by decide)
  showAperture := clampHalf_inRange _ _ _ (by decide) (by decide)
  crosshair := clampHalf_inRange _ _ _ (by decide) (by decide)
  arm := clampHalf_inRange _ _ _ (by decide) (by decide)
  marker := clampHalf_inRange _ _ _ (by decide) (by decide)
  chords := clampChords_cases _
  learnCap := clampHalf_inRange _ _ _ (by decide) (by decide)
  gridX := signedWord_sat_inWorld _
  gridY := signedWord_sat_inWorld _
  filters n := by
    show inRange 0 1 ((st.filters.map ClassFilter.clamped)[n.val]).enable
    rw [Vector.getElem_map]
    exact clampHalf_inRange _ _ _ (by decide) (by decide)
  windowA := st.windowA.clamped_legal
  windowB := st.windowB.clamped_legal

/-- The view that a frame start commits is legal (R8, R166). -/
theorem StagedView.clamped_legal (v : StagedView) : v.clamped.Legal where
  origin := ⟨sat_inWorld _, sat_inWorld _⟩
  scale := clampInt_bounds _ _ _ (by decide)
  width := clampInt_bounds _ _ _ (by decide)
  height := clampInt_bounds _ _ _ (by decide)

end Sys2Proof.Machine

/-! ## What the laws of the frame banks speak of (R148 to R152, R164 to R167) -/

namespace Sys2Proof.Machine

/-- What a build's snapshot is taken from lies in its ranges (R150). -/
structure State.Materials (s : State) : Prop where
  settings : s.active.Legal
  view : s.builder.view.Legal
  drag : s.tool.drag.Law

/-- The pieces of state that the laws of the banks, and the materials of a snapshot, speak of. -/
structure Studio where
  active : Settings
  drag : Drag
  view : View
  banks : Vector Bank 3
  build : Option Build
  streamPtr : Nat

def State.studio (s : State) : Studio :=
  ⟨s.active, s.tool.drag, s.builder.view, s.builder.banks, s.builder.build, s.builder.streamPtr⟩

/-- A bank is READY or SHOWN (R164). -/
def Bank.stands (b : Bank) : Prop := b.state = .ready ∨ b.state = .shown

/-- A change of state writes into no bank and makes none READY or SHOWN that was neither, and it keeps the law of the
banks and the laws of a snapshot. A completed build and power-on alone are no such change. -/
structure KeepsBanks (s t : State) : Prop where
  banks : s.builder.BanksLaw → t.builder.BanksLaw
  entries : ∀ i : Fin 3, (t.builder.banks[i]).entries = (s.builder.banks[i]).entries
  stands : ∀ i : Fin 3, (t.builder.banks[i]).stands → (s.builder.banks[i]).stands
  materials : s.Materials → t.Materials
  snapshot : s.Materials → s.builder.SnapshotLaw → t.builder.SnapshotLaw

theorem KeepsBanks.refl (s : State) : KeepsBanks s s := ⟨id, fun _ => rfl, fun _ => id, id, fun _ => id⟩

theorem KeepsBanks.trans {s t u : State} (h : KeepsBanks s t) (k : KeepsBanks t u) : KeepsBanks s u where
  banks := k.banks ∘ h.banks
  entries i := (k.entries i).trans (h.entries i)
  stands i := h.stands i ∘ k.stands i
  materials := k.materials ∘ h.materials
  snapshot m law := k.snapshot (h.materials m) (h.snapshot m law)

/-- `KeepsBanks.trans` from the last change backwards, for a goal that names the state before that change. -/
theorem KeepsBanks.after {s t u : State} (k : KeepsBanks t u) (h : KeepsBanks s t) : KeepsBanks s u := h.trans k

/-- Pictures stay finished where no bank is written (R154). -/
theorem KeepsBanks.picture {s t : State} (h : KeepsBanks s t) (law : s.builder.PictureLaw) : t.builder.PictureLaw := by
  intro i stands
  rw [h.entries i]
  exact law i (h.stands i stands)

/-- The law of the banks depends on banks, build and stream pointer alone. -/
theorem Builder.BanksLaw.congr {b c : Builder} (h : b.BanksLaw) (banks : c.banks = b.banks)
    (build : c.build.map Build.bank = b.build.map Build.bank) (streamPtr : c.streamPtr = b.streamPtr) : c.BanksLaw := by
  obtain ⟨i, shows⟩ := b.banksLaw_iff.1 h
  refine c.banksLaw_iff.2 ⟨i, ?_, ?_, ?_, ?_⟩
  · rw [banks]
    exact shows.shown
  · rw [banks]
    exact shows.ready
  · rw [banks, build]
    exact shows.building
  · rw [banks, streamPtr]
    exact shows.stream

/-- With banks, build and stream pointer as they were, only the materials change. -/
theorem KeepsBanks.of_materials {s t : State} (banks : t.builder.banks = s.builder.banks)
    (build : t.builder.build = s.builder.build) (streamPtr : t.builder.streamPtr = s.builder.streamPtr)
    (materials : s.Materials → t.Materials) : KeepsBanks s t where
  banks h := h.congr banks (build ▸ rfl) streamPtr
  entries i := by rw [banks]
  stands i := by rw [banks]; exact id
  materials := materials
  snapshot _ law := by
    intro b e
    exact law b (build ▸ e)

/-- The builder alone changes, with its view as it was. -/
theorem KeepsBanks.of_builder {s t : State} (active : t.active = s.active) (drag : t.tool.drag = s.tool.drag)
    (view : t.builder.view = s.builder.view) (banks : s.builder.BanksLaw → t.builder.BanksLaw)
    (entries : ∀ i : Fin 3, (t.builder.banks[i]).entries = (s.builder.banks[i]).entries)
    (stands : ∀ i : Fin 3, (t.builder.banks[i]).stands → (s.builder.banks[i]).stands)
    (snapshot : s.Materials → s.builder.SnapshotLaw → t.builder.SnapshotLaw) : KeepsBanks s t where
  banks := banks
  entries := entries
  stands := stands
  materials m := ⟨active ▸ m.settings, view ▸ m.view, drag ▸ m.drag⟩
  snapshot := snapshot

/-- The laws depend on nothing but the studio. -/
theorem KeepsBanks.of_studio {s t : State} (same : t.studio = s.studio) : KeepsBanks s t := by
  injection same with active drag view banks build streamPtr
  exact .of_materials banks build streamPtr fun m => ⟨active ▸ m.settings, view ▸ m.view, drag ▸ m.drag⟩

/-! ### Operations that leave the studio as it is -/

theorem LinkFrame.studio {s t : State} (h : LinkFrame s t) : t.studio = s.studio := by
  obtain ⟨l, n, r, rfl⟩ := h
  rfl

theorem ListFrame.studio {s t : State} (h : ListFrame s t) : t.studio = s.studio := by
  obtain ⟨u, n, rfl⟩ := h
  rfl

theorem arbitrate_studio (s : State) : (arbitrate s).studio = s.studio := by
  obtain ⟨a, f, p, q, h⟩ := arbitrate_frame s
  rw [h]
  rfl

theorem request_studio (r : Requester) (s : State) : (request r s).studio = s.studio :=
  arbitrate_studio (s.withArbiter { s.arbiter with waiting := s.arbiter.waiting.set r true })

theorem accessed_studio (port : PortId) (loc : Nat) (s : State) : (accessed port loc s).studio = s.studio := by
  obtain ⟨p, h⟩ := accessed_frame port loc s
  rw [h]
  rfl

theorem settleReset_studio (s : State) : (settleReset s).studio = s.studio := by
  rcases settleReset_cases s with ⟨-, -, -, h⟩ | h
  · rw [h]
    rfl
  · rw [h]

theorem emptyCapture_studio (s : State) : (emptyCapture s).studio = s.studio := by
  rw [emptyCapture_eq]
  rfl

theorem withPick_studio (i : PickId) (p : PickSlot) (s : State) : (s.withPick i p).studio = s.studio := by
  cases i <;> rfl

theorem raisePickDone_studio (i : PickId) (s : State) : (raisePickDone i s).studio = s.studio := by
  cases i <;> rfl

theorem abortPick_studio (i : PickId) (s : State) : (abortPick i s).studio = s.studio := by
  unfold abortPick
  dsimp only
  split
  · rfl
  · rw [raisePickDone_studio, withPick_studio]
    rfl

theorem writePick_studio (i : PickId) (input : PickInput) (v : Word) (s : State) :
    (writePick i input v s).studio = s.studio := by
  unfold writePick startPick
  dsimp only
  split_ifs
  · exact withPick_studio _ _ s
  · rw [request_studio, withPick_studio]
  · rfl
  · exact withPick_studio _ _ s

theorem writePickAt_studio (i : PickId) (input : PickInput) (v : Word) (s : State) :
    (writePickAt i input v s).studio = s.studio := by
  unfold writePickAt
  split
  · rfl
  · cases i
    case pick0 => rw [accessed_studio, writePick_studio]
    case pick1 => rw [accessed_studio, writePick_studio]

theorem handlePress_studio (c : CommitInHand) (s : State) : (handlePress c s).studio = s.studio := by
  rw [handlePress_eq]
  rfl

theorem beginGrantedCell_studio (s : State) : (beginGrantedCell s).studio = s.studio := by
  rcases beginGrantedCell_cases s with ⟨list, applied, cell, c, -, h⟩ | h
  · rw [h]
    rfl
  · rw [h]

theorem resetUpdate_studio (s : State) : (resetUpdate s).studio = s.studio := by
  rcases resetUpdate_cases s with ⟨-, h⟩ | ⟨-, h⟩
  · rw [h]
    rfl
  · rw [h]

theorem boundaryAfterWrite_studio (busError : Bool) (s : State) :
    (boundaryAfterWrite busError s).studio = s.studio := by
  unfold boundaryAfterWrite
  split
  · exact settleReset_studio _
  · exact settleReset_studio _

theorem followLink_studio (f : InFlight) (c : Cell) (s : State) : (followLink f c s).studio = s.studio := by
  unfold followLink
  split_ifs
  · exact (endList_frame _ _ s).studio
  · exact (endList_frame _ _ s).studio
  · rfl

theorem tearDown_studio (f : InFlight) (c : Cell) (s : State) : (tearDown f c s).studio = s.studio := by
  unfold tearDown
  split_ifs
  · exact (endList_frame _ _ s).studio
  · exact (endList_frame _ _ s).studio
  · rfl

theorem writeBackCompletes_studio (handleError controlError : Bool) (s : State) :
    (writeBackCompletes handleError controlError s).studio = s.studio := by
  unfold writeBackCompletes
  split
  · unfold writeBackDone
    split_ifs
    · exact boundaryAfterWrite_studio _ (showWrites _ s)
    · exact (endList_frame _ _ (showWrites _ s)).studio
    · exact tearDown_studio _ _ (showWrites _ s)
    · exact followLink_studio _ _ (showWrites _ s)
  · rfl

theorem markingCompletes_studio (busError : Bool) (s : State) : (markingCompletes busError s).studio = s.studio := by
  unfold markingCompletes
  split
  · unfold markingDone
    split
    · exact boundaryAfterWrite_studio _ (showWrites _ s)
    · exact (endList_frame _ _ (showWrites _ s)).studio
  · rfl

theorem updateTeardown_studio (s : State) : (updateTeardown s).studio = s.studio := by
  rw [updateTeardown_eq]
  rfl

theorem clearNotices_studio (port : PortId) (v : Word) (s : State) : (clearNotices port v s).studio = s.studio := by
  cases port <;> rfl

theorem enableNotices_studio (port : PortId) (v : Word) (s : State) : (enableNotices port v s).studio = s.studio := by
  cases port <;> rfl

theorem disableNotices_studio (port : PortId) (v : Word) (s : State) :
    (disableNotices port v s).studio = s.studio := by
  cases port <;> rfl

end Sys2Proof.Machine

/-! ## The builder's operations keep the laws of the banks (R148 to R152, R164 to R169) -/

namespace Sys2Proof.Machine

/-! ### The taking of an apply (R124, R185) -/

theorem takeApply_keepsBanks (s : State) : KeepsBanks s (takeApply s) := by
  obtain ⟨l, n, c, d, h⟩ := takeApply_frame s
  have drag : s.tool.drag.Law → (takeApply s).tool.drag.Law := fun law => by
    rcases takeApply_tool s with same | cleared
    · rw [same]
      exact law
    · rw [cleared]
      exact .empty
  have builder : (takeApply s).builder = { s.builder with rebuild := true } := by rw [h]
  have active : (takeApply s).active = s.staged.clamped s.active.tool := by rw [h]
  refine .of_materials ?_ ?_ ?_ fun m => ⟨?_, ?_, drag m.drag⟩
  · rw [builder]
  · rw [builder]
  · rw [builder]
  · rw [active]
    exact s.staged.clamped_legal _ m.settings.tool
  · rw [builder]
    exact m.view

/-! ### Build start and release (R148, R149) -/

theorem withBuild_bank (bank : Fin 3) (s : State) (j : Fin 3) :
    (withBuild bank s).builder.banks[j] =
      if j = bank then { s.builder.banks[j] with state := .building } else s.builder.banks[j] :=
  setBankState_getElem _ bank j _

/-- A bank that is not BUILDING after a build start was not the one taken (R148). -/
theorem withBuild_state (bank : Fin 3) (s : State) (j : Fin 3) {st : BankState} (other : st ≠ .building)
    (h : ((withBuild bank s).builder.banks[j]).state = st) : (s.builder.banks[j]).state = st := by
  rw [withBuild_bank] at h
  split at h
  · exact absurd h.symm other
  · exact h

/-- A build takes a FREE bank (R148), so that the SHOWN and the READY bank stand as they were. -/
theorem withBuild_banksLaw (bank : Fin 3) (s : State) (free : (s.builder.banks[bank]).state = .free)
    (idle : s.builder.build = none) (law : s.builder.BanksLaw) : (withBuild bank s).builder.BanksLaw := by
  obtain ⟨i, shows⟩ := s.builder.banksLaw_iff.1 law
  have isShown : (s.builder.banks[i]).state = .shown := (shows.shown i).2 rfl
  have apart : i ≠ bank := by
    rintro rfl
    rw [isShown] at free
    cases free
  have stays : (withBuild bank s).builder.banks[i] = s.builder.banks[i] := by rw [withBuild_bank, if_neg apart]
  have noneBuilding : ∀ j : Fin 3, (s.builder.banks[j]).state ≠ .building := fun j h => by
    have inFlight := (shows.building j).1 h
    rw [idle] at inFlight
    cases inFlight
  refine (Builder.banksLaw_iff _).2 ⟨i, fun j => ⟨fun h => ?_, ?_⟩, fun j k hj hk => ?_, fun j => ?_, ?_⟩
  · exact (shows.shown j).1 (withBuild_state bank s j (by decide) h)
  · rintro rfl
    rw [stays]
    exact isShown
  · exact shows.ready j k (withBuild_state bank s j (by decide) hj) (withBuild_state bank s k (by decide) hk)
  · rw [withBuild_bank]
    show _ ↔ some bank = some j
    by_cases same : j = bank
    · simp [same]
    · rw [if_neg same]
      exact iff_of_false (noneBuilding j) fun e => same (Option.some.inj e).symm
  · rw [stays]
    exact shows.stream

/-- The snapshot of a build start copies what is legal (R150). -/
theorem withBuild_keepsBanks (bank : Fin 3) (s : State) (free : (s.builder.banks[bank]).state = .free)
    (idle : s.builder.build = none) : KeepsBanks s (withBuild bank s) := by
  refine .of_builder rfl rfl rfl (withBuild_banksLaw bank s free idle) (fun i => ?_) (fun i => ?_) fun m _ b e => ?_
  · rw [withBuild_bank]
    split <;> rfl
  · exact Or.imp (withBuild_state bank s i (by decide)) (withBuild_state bank s i (by decide))
  · cases e
    exact ⟨m.settings, m.view, m.drag.figure⟩

theorem beginBuild_keepsBanks (bank : Fin 3) (s : State) (free : (s.builder.banks[bank]).state = .free)
    (idle : s.builder.build = none) : KeepsBanks s (beginBuild bank s) := by
  rw [beginBuild_eq_afterSnapshot]
  refine (withBuild_keepsBanks bank s free idle).trans (.of_studio ?_)
  cases buildSort (takeSnapshot s) with
  | cursor c mode => exact request_studio _ _
  | menu window cell => exact emptyCapture_studio _
  | absent => rfl

theorem makeBuildStart_keepsBanks (s : State) (idle : s.builder.build = none) : KeepsBanks s (makeBuildStart s) := by
  unfold makeBuildStart
  split
  · exact .refl s
  · rename_i bank lowest
    have free := freeBank_free _ _ lowest
    split
    · obtain ⟨l, n, c, d, h⟩ := takeApply_frame s
      refine (takeApply_keepsBanks s).trans (beginBuild_keepsBanks bank _ ?_ ?_)
      · rw [h]
        exact free
      · rw [h]
        exact idle
    · exact beginBuild_keepsBanks bank s free idle

/-- A build that is due finds none in flight (R148). -/
theorem buildDue_noBuild (s : State) (due : buildDue s = true) : s.builder.build = none := by
  unfold buildDue at due
  simp only [Bool.and_eq_true, Option.isNone_iff_eq_none] at due
  obtain ⟨⟨-, idle⟩, -⟩ := due
  exact idle

theorem tryBuildStart_keepsBanks (s : State) : KeepsBanks s (tryBuildStart s) := by
  unfold tryBuildStart
  split_ifs with due
  · exact .refl s
  · exact .refl s
  · exact makeBuildStart_keepsBanks s (buildDue_noBuild s (Bool.eq_true_of_not_eq_false due))

theorem releaseGrant_keepsBanks (s : State) : KeepsBanks s (releaseGrant s) := by
  have freed : KeepsBanks s (freeHolder s) := .of_studio rfl
  unfold releaseGrant
  dsimp only
  refine KeepsBanks.after (.of_studio (arbitrate_studio _)) ?_
  split
  · rename_i due
    obtain ⟨due, -⟩ := Bool.and_eq_true_iff.1 due
    exact freed.trans (makeBuildStart_keepsBanks _ (buildDue_noBuild _ due))
  · exact freed

/-! ### The course of a build (R152) -/

/-- A build goes on to another phase. -/
theorem KeepsBanks.of_phase {s t : State} {b : Build} (phase : BuildPhase) (build : s.builder.build = some b)
    (same : t.studio = { s.studio with build := some { b with phase := phase } }) : KeepsBanks s t := by
  injection same with active drag view banks after streamPtr
  refine .of_builder active drag view (fun law => law.congr banks (by rw [after, build]; rfl) streamPtr)
    (fun i => by rw [banks]; rfl) (fun i => by rw [banks]; exact id) fun _ law c e => ?_
  rw [after] at e
  cases e
  exact law b build

theorem beginBuildResolution_keepsBanks (s : State) : KeepsBanks s (beginBuildResolution s) := by
  unfold beginBuildResolution
  split
  · rename_i build
    exact .of_phase .resolving build rfl
  · exact .refl s

theorem endBuildResolution_keepsBanks (r : Resolution) (s : State) : KeepsBanks s (endBuildResolution r s) := by
  unfold endBuildResolution
  split
  · rename_i build
    exact (releaseGrant_keepsBanks _).after (.of_phase (.composing (some r) s.table.generation) build rfl)
  · exact .refl s

/-! ### View, frame start and stream (R165 to R167) -/

theorem commitView_keepsBanks (s : State) : KeepsBanks s (commitView s) := by
  unfold commitView
  dsimp only
  split_ifs
  · exact .refl s
  · exact .of_materials rfl rfl rfl fun m => ⟨m.settings, s.builder.staged.clamped_legal, m.drag⟩
  · exact .of_materials rfl rfl rfl fun m => ⟨m.settings, s.builder.staged.clamped_legal, m.drag⟩

/-- The READY bank becomes the SHOWN one, and the stream begins with its words (R166, R167). -/
theorem rotated_banksLaw (b : Builder) (law : b.BanksLaw) :
    Builder.BanksLaw { b with banks := rotated b.banks, streamPtr := 0 } := by
  obtain ⟨i, shows⟩ := b.banksLaw_iff.1 law
  rw [Builder.banksLaw_iff]
  by_cases ready : ∃ r : Fin 3, (b.banks[r]).state = .ready
  · have at_ : ∀ j : Fin 3, ((rotated b.banks)[j]).state =
        if (b.banks[j]).state = .ready then .shown
        else if (b.banks[j]).state = .shown then .free else (b.banks[j]).state := fun j => by
      rw [rotated_getElem]
      exact if_pos ready
    obtain ⟨r, isReady⟩ := ready
    have noneReady : ∀ j : Fin 3, ((rotated b.banks)[j]).state ≠ .ready := fun j => by
      rw [at_]
      split_ifs <;> simp_all
    refine ⟨r, fun j => ⟨fun h => ?_, ?_⟩, fun j k hj _ => absurd hj (noneReady j), fun j => ?_, Nat.zero_le _⟩
    · rw [at_] at h
      split_ifs at h with h1 h2
      · exact shows.ready j r h1 isReady
      · exact absurd h h2
    · rintro rfl
      rw [at_, if_pos isReady]
    · rw [at_, ← shows.building j]
      split_ifs <;> simp_all
  · have same : ∀ j : Fin 3, (rotated b.banks)[j] = b.banks[j] := fun j => by
      rw [rotated_getElem, if_neg ready]
    refine ⟨i, ?_, ?_, ?_, Nat.zero_le _⟩
    · exact fun j => (same j).symm ▸ shows.shown j
    · exact fun j k => (same j).symm ▸ (same k).symm ▸ shows.ready j k
    · exact fun j => (same j).symm ▸ shows.building j

theorem frameStart_keepsBanks (s : State) : KeepsBanks s (frameStart s) := by
  refine (commitView_keepsBanks s).trans (.of_builder rfl rfl rfl (rotated_banksLaw _) (fun i => ?_) (fun i => ?_)
    fun _ => id)
  · show ((rotated _)[i]).entries = _
    rw [rotated_getElem]
  · show ((rotated _)[i]).stands → _
    rw [rotated_getElem]
    unfold Bank.stands
    dsimp only
    split_ifs <;> simp_all

theorem advanceStream_keepsBanks (s : State) : KeepsBanks s (advanceStream s) := by
  unfold advanceStream
  split
  · rename_i inside
    refine .of_builder rfl rfl rfl (fun law => ⟨law.shown, law.ready, law.building, inside⟩) (fun _ => rfl)
      (fun _ => id) fun _ => id
  · exact .refl s

theorem readStream_keepsBanks (s : State) : KeepsBanks s (readStream s) :=
  (advanceStream_keepsBanks s).trans (.of_studio rfl)

theorem rewindStream_keepsBanks (s : State) : KeepsBanks s (rewindStream s) :=
  .of_builder rfl rfl rfl (fun law => ⟨law.shown, law.ready, law.building, Nat.zero_le _⟩) (fun _ => rfl)
    (fun _ => id) fun _ => id

/-! ### ENGINE_RESET (R169) -/

/-- A bank after ENGINE_RESET: a SHOWN bank stays, every other one is FREE (R169). -/
def Bank.afterReset (b : Bank) : Bank :=
  match b.state with
  | .building => { b with state := .free }
  | .ready => { b with state := .free }
  | .free => b
  | .shown => b

theorem Bank.afterReset_eq (b : Bank) :
    b.afterReset = { b with state := if b.state = .shown then .shown else .free } := by
  obtain ⟨st, entries⟩ := b
  cases st <;> rfl

theorem resetBuilder_studio (s : State) :
    (resetBuilder s).studio =
      { s.studio with banks := s.builder.banks.map Bank.afterReset, build := none } := by
  unfold resetBuilder
  dsimp only
  split <;> rfl

theorem resetBuilder_bank (s : State) (j : Fin 3) : (resetBuilder s).builder.banks[j] =
    { s.builder.banks[j] with state := if (s.builder.banks[j]).state = .shown then .shown else .free } := by
  have banks : (resetBuilder s).builder.banks = s.builder.banks.map Bank.afterReset :=
    congrArg Studio.banks (resetBuilder_studio s)
  rw [banks, Fin.getElem_fin, Vector.getElem_map]
  exact Bank.afterReset_eq _

theorem resetBuilder_shown_iff (s : State) (j : Fin 3) :
    ((resetBuilder s).builder.banks[j]).state = .shown ↔ (s.builder.banks[j]).state = .shown := by
  rw [resetBuilder_bank]
  dsimp only
  split
  · next shown => exact iff_of_true rfl shown
  · next notShown => exact iff_of_false nofun notShown

/-- After ENGINE_RESET the SHOWN bank is the only one that is not FREE (R169). -/
theorem resetBuilder_state (s : State) (j : Fin 3) {st : BankState} (notShown : st ≠ .shown) (notFree : st ≠ .free) :
    ((resetBuilder s).builder.banks[j]).state ≠ st := by
  rw [resetBuilder_bank]
  dsimp only
  split
  · exact notShown.symm
  · exact notFree.symm

theorem resetBuilder_banksLaw (s : State) (law : s.builder.BanksLaw) : (resetBuilder s).builder.BanksLaw := by
  obtain ⟨i, shows⟩ := s.builder.banksLaw_iff.1 law
  have noBuild : (resetBuilder s).builder.build = none := congrArg Studio.build (resetBuilder_studio s)
  have streamPtr : (resetBuilder s).builder.streamPtr = s.builder.streamPtr :=
    congrArg Studio.streamPtr (resetBuilder_studio s)
  refine (Builder.banksLaw_iff _).2 ⟨i, fun j => (resetBuilder_shown_iff s j).trans (shows.shown j),
    fun j k ready => absurd ready (resetBuilder_state s j (by decide) (by decide)), fun j => ?_, ?_⟩
  · rw [noBuild]
    exact iff_of_false (resetBuilder_state s j (by decide) (by decide)) fun none => nomatch none
  · rw [streamPtr, resetBuilder_bank]
    exact shows.stream

theorem resetBuilder_keepsBanks (s : State) : KeepsBanks s (resetBuilder s) := by
  have noBuild : (resetBuilder s).builder.build = none := congrArg Studio.build (resetBuilder_studio s)
  refine .of_builder (congrArg Studio.active (resetBuilder_studio s)) (congrArg Studio.drag (resetBuilder_studio s))
    (congrArg Studio.view (resetBuilder_studio s)) (resetBuilder_banksLaw s) (fun i => ?_) (fun i => ?_)
    fun _ _ b e => ?_
  · rw [resetBuilder_bank]
  · rintro (ready | shown)
    · exact absurd ready (resetBuilder_state s i (by decide) (by decide))
    · exact .inr ((resetBuilder_shown_iff s i).1 shown)
  · rw [noBuild] at e
    cases e

end Sys2Proof.Machine

/-! ## Commits, cells and ports keep the laws of the banks -/

namespace Sys2Proof.Machine

/-! ### Drag cells (R86, R87) -/

/-- The tool unit's drag changes within its law. -/
theorem KeepsBanks.of_drag {s t : State} (drag : s.tool.drag.Law → t.tool.drag.Law)
    (same : t.studio = { s.studio with drag := t.tool.drag }) : KeepsBanks s t := by
  injection same with active _ view banks build streamPtr
  exact .of_materials banks build streamPtr fun m => ⟨active ▸ m.settings, view ▸ m.view, drag m.drag⟩

theorem applyDrag_keepsBanks (f : InFlight) (c : Cell) (s : State) : KeepsBanks s (applyDrag f c s) :=
  .of_drag (dragOutcome_law _ c) rfl

theorem applyWaitingDrag_keepsBanks (s : State) : KeepsBanks s (applyWaitingDrag s) := by
  unfold applyWaitingDrag
  split
  · split
    · exact .refl s
    · exact applyDrag_keepsBanks _ _ s
  · exact .refl s

theorem fetchCompletes_keepsBanks (reply : FetchReply) (s : State) : KeepsBanks s (fetchCompletes reply s) := by
  unfold fetchCompletes
  split
  · unfold fetchDone
    split
    · exact .of_studio (settleReset_studio _)
    · split
      · exact .of_studio (endList_frame _ _ s).studio
      · split
        · unfold dispatch
          split_ifs
          · exact .of_studio (request_studio _ _)
          · exact .of_studio rfl
          · exact .of_studio rfl
          · exact .of_studio rfl
          · exact applyDrag_keepsBanks _ _ s
        · exact .of_studio (endList_frame _ _ s).studio
  · exact .refl s

theorem cellApplies_keepsBanks (s : State) : KeepsBanks s (cellApplies s) := by
  unfold cellApplies
  split
  · exact (releaseGrant_keepsBanks _).after (.of_studio rfl)
  · exact .refl s

theorem pickCompletes_keepsBanks (s : State) : KeepsBanks s (pickCompletes s) := by
  have done : ∀ i, KeepsBanks s (completePick i s) := fun i =>
    (releaseGrant_keepsBanks _).after (.of_studio ((raisePickDone_studio i _).trans (withPick_studio i _ s)))
  unfold pickCompletes
  split
  · split
    · exact done .pick0
    · exact .refl s
  · split
    · exact done .pick1
    · exact .refl s
  all_goals exact .refl s

/-! ### Commits (R126 to R138) -/

theorem toolResetEvent_keepsBanks (s : State) : KeepsBanks s (toolResetEvent s) := .of_drag (fun _ => .empty) rfl

/-- The end of a commit: a waiting drag cell, a waiting reset and a waiting build start take their turns (R87, R126,
R145, R149). -/
theorem endCommit_keepsBanks (c : CommitInHand) (s : State) : KeepsBanks s (endCommit c s) := by
  have handled : KeepsBanks s (applyWaitingDrag (handlePress c (s.withTool { s.tool with commit := none }))) :=
    (applyWaitingDrag_keepsBanks _).after (.of_studio (handlePress_studio c _))
  have settled : ∀ t, KeepsBanks t (releaseGrant (settleReset t)) := fun t =>
    KeepsBanks.trans (.of_studio (settleReset_studio t)) (releaseGrant_keepsBanks _)
  unfold endCommit
  dsimp only
  split
  · exact (handled.trans (toolResetEvent_keepsBanks _)).trans (settled _)
  · exact handled.trans (settled _)

theorem commitWithoutPoint_keepsBanks (c : CommitInHand) (kind : RecordKind) (e : PressEffect) (s : State)
    (drag : s.tool.drag.Law → e.drag.Law) : KeepsBanks s (commitWithoutPoint c kind e s) :=
  (endCommit_keepsBanks c _).after (.of_drag drag rfl)

theorem commitPoint_keepsBanks (c : CommitInHand) (s : State) : KeepsBanks s (commitPoint c s) := by
  unfold commitPoint
  split
  · exact (endCommit_keepsBanks c _).after (.of_studio (emptyCapture_studio s))
  · exact .of_studio rfl

theorem beginCommit_keepsBanks (c : CommitInHand) (s : State) : KeepsBanks s (beginCommit c s) := by
  have applied : KeepsBanks s (if s.applyPending then takeApply s else s) := by
    split
    · exact takeApply_keepsBanks s
    · exact .refl s
  unfold beginCommit
  dsimp only
  generalize (if s.applyPending then takeApply s else s) = u at applied ⊢
  refine applied.trans ?_
  split
  · exact (endCommit_keepsBanks c _).after (.of_studio rfl)
  · unfold commitAccepted
    split
    · exact commitWithoutPoint_keepsBanks c _ _ u (dragEnded_law _ _)
    · exact commitWithoutPoint_keepsBanks c _ _ u (dragEnded_law _ _)
    · exact commitPoint_keepsBanks c u
    · exact commitPoint_keepsBanks c u

theorem finishPlace_keepsBanks (c : CommitInHand) (r : Resolution) (s : State) : KeepsBanks s (finishPlace c r s) :=
  (endCommit_keepsBanks c _).after (.of_drag (fun law => (placeEffect_drag _ _ _ _).symm ▸ law) rfl)

theorem finishCommit_keepsBanks (c : CommitInHand) (r : Resolution) (s : State) :
    KeepsBanks s (finishCommit c r s) := by
  unfold finishCommit
  split
  · exact finishPlace_keepsBanks c r s
  · exact (endCommit_keepsBanks c _).after (.of_studio rfl)
  · exact .refl s
  · exact .refl s

theorem resolutionEnds_keepsBanks (s : State) : KeepsBanks s (resolutionEnds s) := by
  unfold resolutionEnds
  split
  · exact .refl s
  · rename_i inputs _
    generalize resolve inputs s.table = r
    refine KeepsBanks.trans (t := endResolution r s) (.of_studio rfl) ?_
    dsimp only
    split
    · exact endBuildResolution_keepsBanks _ _
    · unfold endCommitResolution
      split
      · exact finishCommit_keepsBanks _ _ _
      · exact .refl _
    · exact .refl _

theorem tableGrant_keepsBanks (s : State) : KeepsBanks s (tableGrant s) := by
  unfold tableGrant
  refine KeepsBanks.trans (.of_studio (arbitrate_studio s)) ?_
  dsimp only
  split
  · unfold beginGrantedCommit
    split
    · exact beginCommit_keepsBanks _ _
    · exact .refl _
  · exact beginBuildResolution_keepsBanks _
  · exact .of_studio (beginGrantedCell_studio _)
  all_goals exact .refl _

theorem tryCommitStart_studio (s : State) : (tryCommitStart s).studio = s.studio := by
  unfold tryCommitStart
  split
  · split
    · exact request_studio _ _
    · rfl
  · rfl

/-! ### Resets, commands and ports (R179 to R183) -/

theorem resetTool_keepsBanks (s : State) : KeepsBanks s (resetTool s) := by
  unfold resetTool
  split
  · exact .of_studio rfl
  · exact (toolResetEvent_keepsBanks _).after (.of_studio rfl)
  · exact toolResetEvent_keepsBanks s

theorem engineReset_keepsBanks (s : State) : KeepsBanks s (engineReset s) := by
  unfold engineReset
  split
  · unfold resetEngine
    dsimp only
    generalize cleared : ({ s with
      appNotices := s.appNotices.clear (BitVec.allOnes 14), engine := .resetting } : State) = u
    have linked : (resetLink u).studio = s.studio := (resetLink_frame u).studio.trans (by rw [← cleared]; rfl)
    refine KeepsBanks.trans (.of_studio linked) ((resetTool_keepsBanks _).trans ((resetBuilder_keepsBanks _).trans ?_))
    refine .of_studio ?_
    rw [arbitrate_studio, settleReset_studio, resetUpdate_studio, abortPick_studio, abortPick_studio,
      emptyCapture_studio]
  · exact .refl s

theorem commitPop_studio (s : State) : (commitPop s).studio = s.studio := rfl

theorem command_keepsBanks (code : Half) (s : State) : KeepsBanks s (command code s) := by
  unfold command
  split
  · exact engineReset_keepsBanks s
  · exact .of_studio (linkRestart_frame s).studio
  · exact .of_studio rfl
  · exact .of_studio (updateTeardown_studio s)
  · exact .of_studio rfl
  · exact .of_studio (commitPop_studio s)
  · exact .refl s

theorem staged_studio (st : Settings) (s : State) : State.studio { s with staged := st } = s.studio := rfl

theorem writeApp_keepsBanks (loc : Nat) (v : Word) (s : State) : KeepsBanks s (writeApp loc v s) := by
  unfold writeApp
  split_ifs
  · exact command_keepsBanks _ s
  · exact .of_studio (clearNotices_studio _ _ s)
  · exact .of_studio (enableNotices_studio _ _ s)
  · exact .of_studio (disableNotices_studio _ _ s)
  · exact .of_studio rfl
  · exact .of_studio (submit_frame _ s).studio
  · exact .of_studio (commitPop_studio s)
  · split
    · exact .of_studio (writePick_studio _ _ _ s)
    · exact .refl s
  · exact .of_studio (staged_studio _ s)
  · exact .refl s

theorem writeDisp_keepsBanks (loc : Nat) (v : Word) (s : State) : KeepsBanks s (writeDisp loc v s) := by
  unfold writeDisp
  split_ifs
  · exact .of_studio (clearNotices_studio _ _ s)
  · exact .of_studio (enableNotices_studio _ _ s)
  · exact .of_studio (disableNotices_studio _ _ s)
  · exact frameStart_keepsBanks s
  · exact rewindStream_keepsBanks s
  · split
    · exact .of_studio rfl
    · exact .refl s
  · split
    · exact .of_studio (writePick_studio _ _ _ s)
    · exact .refl s
  · exact .refl s

theorem KeepsBanks.accessed {s t : State} (h : KeepsBanks s t) (port : PortId) (loc : Nat) :
    KeepsBanks s (accessed port loc t) :=
  h.trans (.of_studio (accessed_studio port loc t))

theorem KeepsBanks.accessed_of {s t : State} (port : PortId) (loc : Nat) (same : t.studio = s.studio) :
    KeepsBanks s (Machine.accessed port loc t) :=
  (KeepsBanks.of_studio same).accessed port loc

theorem portWrite_keepsBanks (port : PortId) (address : PortAddr) (v : Word) (s : State) :
    KeepsBanks s (portWrite port address v s) := by
  cases port <;> cases address
  case app.index => exact .of_studio rfl
  case disp.index => exact .of_studio rfl
  case app.data => exact (writeApp_keepsBanks _ v s).accessed _ _
  case disp.data => exact (writeDisp_keepsBanks _ v s).accessed _ _

theorem portRead_keepsBanks (port : PortId) (address : PortAddr) (s : State) :
    KeepsBanks s (portRead port address s) := by
  cases port <;> cases address
  case app.index => exact .of_studio rfl
  case disp.index => exact .of_studio rfl
  case app.data => exact .of_studio (accessed_studio _ _ _)
  case disp.data =>
    refine KeepsBanks.after (.of_studio (accessed_studio _ _ _)) ?_
    split
    · exact readStream_keepsBanks s
    · exact .of_studio rfl

/-- Every command but POWER_ON and BUILD_COMPLETION leaves the banks' contents and keeps their laws. -/
theorem exec_keepsBanks (c : Instr) (s t : State) (noPowerOn : c ≠ .powerOn) (noCompletion : c ≠ .buildCompletion)
    (run : exec c s = .next t) : KeepsBanks s t := by
  cases c <;> cases run
  case powerOn => exact absurd rfl noPowerOn
  case byteArrival time sound byte => exact .of_studio (takeByte_frame time sound byte s).studio
  case gapExpiry time => exact .of_studio (gapExpires_frame time s).studio
  case presenceExpiry time device => exact .of_studio (presenceExpires_frame time device s).studio
  case engineReset => exact (engineReset_keepsBanks s).accessed _ _
  case linkRestart => exact .accessed_of _ _ (linkRestart_frame s).studio
  case apply => exact .accessed_of _ _ rfl
  case updateTeardown => exact .accessed_of _ _ (updateTeardown_studio s)
  case updateAck => exact .accessed_of _ _ rfl
  case commitPop => exact .accessed_of _ _ (commitPop_studio s)
  case submitHi value => exact .accessed_of _ _ (submit_frame value s).studio
  case fetchCompletion reply => exact fetchCompletes_keepsBanks reply s
  case tableGrant => exact tableGrant_keepsBanks s
  case cellApplication => exact cellApplies_keepsBanks s
  case writeBackCompletion handleError controlError =>
    exact .of_studio (writeBackCompletes_studio handleError controlError s)
  case markingCompletion busError => exact .of_studio (markingCompletes_studio busError s)
  case commitStart => exact .of_studio (tryCommitStart_studio s)
  case resolutionEnd => exact resolutionEnds_keepsBanks s
  case buildStart => exact tryBuildStart_keepsBanks s
  case buildCompletion => exact absurd rfl noCompletion
  case frameStart => exact (frameStart_keepsBanks s).accessed _ _
  case stream => exact (readStream_keepsBanks s).accessed _ _
  case streamRewind => exact (rewindStream_keepsBanks s).accessed _ _
  case stagedViewWrite field value => exact .accessed_of _ _ rfl
  case pickGo slot => exact .of_studio (writePickAt_studio slot .go 1 s)
  case pickBlockedWrite slot input value => exact .of_studio (writePickAt_studio slot input value s)
  case pickCompletion => exact pickCompletes_keepsBanks s
  case noticeRaw port value => exact .accessed_of _ _ (clearNotices_studio port value s)
  case enableSet port value => exact .accessed_of _ _ (enableNotices_studio port value s)
  case enableClear port value => exact .accessed_of _ _ (disableNotices_studio port value s)
  case dataRead port address => exact portRead_keepsBanks port address s
  case registerWrite port address value => exact portWrite_keepsBanks port address value s

end Sys2Proof.Machine

/-! ## The picture of a build: its strokes, its END and its length (R153 to R162) -/

namespace Sys2Proof.Machine

/-! ### END (R154, R167) -/

/-- What is read of a bank ends with its first END (R154, R167). -/
theorem upToEnd_append (l rest : List Entry) (noEnd : .endMark ∉ l) : upToEnd (l ++ rest) = l ++ upToEnd rest := by
  induction l with
  | nil => rfl
  | cons e l ih =>
    obtain ⟨other, further⟩ := not_or.1 (mt List.mem_cons.2 noEnd)
    cases e with
    | endMark => exact absurd rfl other
    | header h => exact congrArg _ (ih further)
    | cursorInfo p f => exact congrArg _ (ih further)
    | move p style layer => exact congrArg _ (ih further)
    | draw p style layer => exact congrArg _ (ih further)

theorem upToEnd_finished (l rest : List Entry) (noEnd : .endMark ∉ l) :
    upToEnd (l ++ .endMark :: rest) = l ++ [.endMark] := by
  rw [upToEnd_append l _ noEnd]
  rfl

/-! ### Strokes (section 8.3) -/

/-- A MOVE or a DRAW (section 8.3). -/
def Entry.isStroke (e : Entry) : Prop := ∃ q style layer, e = .move q style layer ∨ e = .draw q style layer

/-- At most n entries, all of them MOVEs and DRAWs. -/
structure Drawn (n : Nat) (l : List Entry) : Prop where
  short : l.length ≤ n
  strokes : ∀ e ∈ l, e.isStroke

theorem Drawn.nil {n : Nat} : Drawn n [] := ⟨Nat.zero_le n, fun _ mem => nomatch mem⟩

theorem Drawn.mono {m n : Nat} {l : List Entry} (h : Drawn m l) (le : m ≤ n) : Drawn n l :=
  ⟨h.short.trans le, h.strokes⟩

theorem Drawn.append {m n : Nat} {k l : List Entry} (hk : Drawn m k) (hl : Drawn n l) : Drawn (m + n) (k ++ l) where
  short := List.length_append ▸ Nat.add_le_add hk.short hl.short
  strokes _ mem := (List.mem_append.1 mem).elim (hk.strokes _) (hl.strokes _)

theorem Drawn.flatMap {α : Type} {n : Nat} {f : α → List Entry} (l : List α) (h : ∀ a ∈ l, Drawn n (f a)) :
    Drawn (n * l.length) (l.flatMap f) := by
  induction l with
  | nil => exact .nil
  | cons a l ih =>
    obtain ⟨first, others⟩ := List.forall_mem_cons.1 h
    rw [List.flatMap_cons]
    refine (first.append (ih others)).mono ?_
    rw [List.length_cons, Nat.mul_succ, Nat.add_comm]

theorem stroke_drawn (style : Style) (layer : Layer) (l : List Point) {n : Nat} (short : l.length ≤ n) :
    Drawn n (stroke style layer l) := by
  cases l with
  | nil => exact .nil
  | cons p rest =>
    refine ⟨by simpa [stroke] using short, fun e mem => ?_⟩
    rcases List.mem_cons.1 mem with rfl | mem
    · exact ⟨p, style, layer, .inl rfl⟩
    · obtain ⟨q, -, rfl⟩ := List.mem_map.1 mem
      exact ⟨q, style, layer, .inr rfl⟩

theorem Drawn.no_end {n : Nat} {l : List Entry} (h : Drawn n l) : .endMark ∉ l := fun mem => by
  obtain ⟨q, style, layer, e | e⟩ := h.strokes _ mem <;> cases e

/-! ### The elements (R157 to R162) -/

theorem crosshair_drawn (snap : Snapshot) (c : Point) : Drawn 4 (crosshair snap c) := by
  unfold crosshair
  dsimp only
  split
  · exact .append (m := 2) (n := 2) (stroke_drawn _ _ _ le_rfl) (stroke_drawn _ _ _ le_rfl)
  · exact .append (m := 2) (n := 2) (stroke_drawn _ _ _ le_rfl) (stroke_drawn _ _ _ le_rfl)

theorem apertureBox_drawn (snap : Snapshot) (c : Point) (mode : Mode) : Drawn 5 (apertureBox snap c mode) := by
  unfold apertureBox
  split
  · exact stroke_drawn _ _ _ le_rfl
  · exact .nil

/-- No glyph has more entries than that of CENTER (R159). -/
theorem marker_drawn (snap : Snapshot) (r : Resolution) : Drawn 9 (marker snap r) := by
  have single : ∀ l : List Point, l.length ≤ 9 → Drawn 9 ([l].flatMap (stroke .bright .marker)) := fun l short => by
    rw [List.flatMap_singleton]
    exact stroke_drawn _ _ l short
  unfold marker glyph
  dsimp only
  cases r.feature with
  | none => exact .nil
  | node => exact single _ (by simp)
  | endPoint => exact single _ (by simp)
  | mid => exact single _ (by simp)
  | center => exact single _ (by simp)
  | quad => exact single _ (by simp)
  | near => exact single _ (by simp)
  | grid =>
    refine (Drawn.flatMap (n := 2) _ fun l mem => ?_).mono (n := 9) (by simp)
    rcases List.mem_pair.1 mem with rfl | rfl
    · exact stroke_drawn _ _ _ le_rfl
    · exact stroke_drawn _ _ _ le_rfl

theorem lineBand_drawn (snap : Snapshot) (e : Point) : Drawn 2 (lineBand snap e) := by
  unfold lineBand
  split
  · split
    · exact .nil
    · exact stroke_drawn _ _ _ le_rfl
  · exact .nil

theorem closeHint_drawn (snap : Snapshot) (e : Point) : Drawn 2 (closeHint snap e) := by
  unfold closeHint
  split
  · split
    · exact stroke_drawn _ _ _ le_rfl
    · exact .nil
  · exact .nil

theorem rectBand_drawn (snap : Snapshot) (e : Point) : Drawn 5 (rectBand snap e) := by
  unfold rectBand
  split
  · split
    · exact stroke_drawn _ _ _ le_rfl
    · exact .nil
  · exact .nil

/-- A circle has a radius line and as many chords as the setting says (R161). -/
theorem circleBand_drawn (snap : Snapshot) (e : Point) :
    Drawn (3 + snap.settings.chords.toNat) (circleBand snap e) := by
  unfold circleBand
  split
  · split
    · refine ((stroke_drawn _ _ _ le_rfl).append (stroke_drawn _ _ _ le_rfl)).mono ?_
      simp only [circlePoints, List.length_append, List.length_map, List.length_range, List.length_cons,
        List.length_nil]
      omega
    · exact .nil
  · exact .nil

/-- A drag figure has a base line and two entries for each segment (R162). -/
theorem dragBand_drawn (snap : Snapshot) (e : Point) : Drawn (2 + 2 * snap.drag.figure.length) (dragBand snap e) := by
  unfold dragBand
  split
  · exact .append (stroke_drawn _ _ _ le_rfl) (.flatMap _ fun g _ => stroke_drawn _ _ _ le_rfl)
  · exact .nil

/-- No rubber band has more entries than a drag figure of 64 segments (R125, R160 to R162). -/
theorem rubberBand_drawn (snap : Snapshot) (e : Point) (legal : snap.settings.Legal)
    (figure : snap.drag.figure.length ≤ Config.dragCap) : Drawn 130 (rubberBand snap e) := by
  have chords : snap.settings.chords.toNat ≤ 64 := by
    rcases legal.chords with h | h | h <;> rw [h] <;> decide
  unfold rubberBand
  split
  · exact .nil
  · exact (lineBand_drawn snap e).mono (by decide)
  · exact ((lineBand_drawn snap e).append (closeHint_drawn snap e)).mono (by decide)
  · exact (rectBand_drawn snap e).mono (by decide)
  · exact (circleBand_drawn snap e).mono (by omega)
  · refine (dragBand_drawn snap e).mono ?_
    have : Config.dragCap = 64 := rfl
    omega

/-! ### The whole picture (R154) -/

/-- A build's picture is HEADER, CURSOR_INFO, at most 148 strokes, and END (R154). -/
theorem compose_drawn (b : Build) (result : Option Resolution) (gen : Half) (legal : b.snapshot.settings.Legal)
    (figure : b.snapshot.drag.figure.length ≤ Config.dragCap) :
    ∃ h p f rest, Drawn 148 rest ∧ compose b result gen = .header h :: .cursorInfo p f :: (rest ++ [.endMark]) := by
  have cursor : Drawn 18 (cursorEntries b result) := by
    unfold cursorEntries
    split
    · exact ((crosshair_drawn _ _).append (apertureBox_drawn _ _ _)).append (marker_drawn _ _)
    · exact .nil
  have band : Drawn 130 (bandEntries b result) := by
    unfold bandEntries
    split
    · exact rubberBand_drawn _ _ legal figure
    · exact .nil
  refine ⟨headerOf b result gen, ?_⟩
  cases result with
  | none => exact ⟨_, _, _, cursor.append band, rfl⟩
  | some r => exact ⟨_, _, _, cursor.append band, rfl⟩

/-- What is read of a bank after a completion is the build's picture (R154). -/
theorem compose_read (b : Build) (result : Option Resolution) (gen : Half) (old : List Entry)
    (legal : b.snapshot.settings.Legal) (figure : b.snapshot.drag.figure.length ≤ Config.dragCap) :
    finished (upToEnd (overwrite old (compose b result gen))) ∧
      (upToEnd (overwrite old (compose b result gen))).length ≤ 151 := by
  obtain ⟨h, p, f, rest, drawn, composed⟩ := compose_drawn b result gen legal figure
  have read : upToEnd (overwrite old (compose b result gen)) =
      .header h :: .cursorInfo p f :: (rest ++ [.endMark]) := by
    unfold overwrite
    rw [composed]
    show upToEnd (.header h :: .cursorInfo p f :: (rest ++ [.endMark] ++ _)) = _
    rw [List.append_assoc]
    exact upToEnd_finished (.header h :: .cursorInfo p f :: rest) _ (by simp [drawn.no_end])
  have short := drawn.short
  rw [read]
  refine ⟨⟨h, p, f, rest, rfl, drawn.strokes⟩, ?_⟩
  simp only [List.length_cons, List.length_append, List.length_nil]
  omega

end Sys2Proof.Machine

/-! ## Completion and power-on, and the laws of the banks (R148, R154, R163, R164, R167) -/

namespace Sys2Proof.Machine

/-! ### BUILD_COMPLETION (R163) -/

/-- The state after the completion of a build (R153, R163). -/
def completed (b : Build) (result : Option Resolution) (gen : Half) (s : State) : State :=
  raiseDisp .frameReady { s with builder := { s.builder with
    banks := banksCompleted s.builder.banks b.bank (compose b result gen)
    build := none
    counter := b.number
    lastDrawing := lastDrawingAfter b result s.builder.lastDrawing } }

theorem completeBuild_composing (s : State) (b : Build) (result : Option Resolution) (gen : Half)
    (build : s.builder.build = some b) (phase : b.phase = .composing result gen) :
    completeBuild s = completed b result gen s := by
  obtain ⟨bank, number, snap, sort, ph⟩ := b
  cases phase
  unfold completeBuild
  rw [build]
  rfl

theorem completeBuild_cases (s : State) :
    (∃ b result gen, s.builder.build = some b ∧ completeBuild s = completed b result gen s) ∨ completeBuild s = s := by
  unfold completeBuild
  split
  · rename_i build
    exact .inl ⟨_, _, _, build, rfl⟩
  · exact .inr rfl

theorem completed_bank (b : Build) (result : Option Resolution) (gen : Half) (s : State) (j : Fin 3) :
    (completed b result gen s).builder.banks[j] =
      if j = b.bank then ⟨.ready, overwrite (s.builder.banks[j]).entries (compose b result gen)⟩
      else if (s.builder.banks[j]).state = .ready then { s.builder.banks[j] with state := .free }
      else s.builder.banks[j] :=
  banksCompleted_getElem _ _ _ _

/-- The build's bank becomes the one READY bank, and the SHOWN bank stays (R163). -/
theorem completed_banksLaw (b : Build) (result : Option Resolution) (gen : Half) (s : State)
    (build : s.builder.build = some b) (law : s.builder.BanksLaw) : (completed b result gen s).builder.BanksLaw := by
  obtain ⟨i, shows⟩ := s.builder.banksLaw_iff.1 law
  have at_ := completed_bank b result gen s
  have buildingBank : (s.builder.banks[b.bank]).state = .building := (shows.building _).2 (by rw [build]; rfl)
  have shownBank : (s.builder.banks[i]).state = .shown := (shows.shown i).2 rfl
  have apart : i ≠ b.bank := by
    rintro rfl
    rw [shownBank] at buildingBank
    cases buildingBank
  have stays : (completed b result gen s).builder.banks[i] = s.builder.banks[i] := by
    rw [at_, if_neg apart, if_neg (by rw [shownBank]; decide)]
  have onlyReady : ∀ j : Fin 3, ((completed b result gen s).builder.banks[j]).state = .ready →
      j = b.bank := fun j h => by
    rw [at_] at h
    split_ifs at h with same wasReady
    · exact same
    · exact absurd h wasReady
  refine (Builder.banksLaw_iff _).2 ⟨i, fun j => ⟨fun h => ?_, ?_⟩, fun j k hj hk => ?_,
    fun j => ⟨fun h => ?_, fun h => ?_⟩, ?_⟩
  · rw [at_] at h
    split_ifs at h
    exact (shows.shown j).1 h
  · rintro rfl
    rw [stays]
    exact shownBank
  · rw [onlyReady j hj, onlyReady k hk]
  · rw [at_] at h
    split_ifs at h with other _
    have was := (shows.building j).1 h
    rw [build] at was
    exact absurd (Option.some.inj was).symm other
  · cases h
  · rw [stays]
    exact shows.stream

/-- The build's bank holds the composed picture, and every other bank what it held (R154, R163). -/
theorem completed_picture (b : Build) (result : Option Resolution) (gen : Half) (s : State)
    (build : s.builder.build = some b) (pictures : s.builder.PictureLaw) (snapshots : s.builder.SnapshotLaw) :
    (completed b result gen s).builder.PictureLaw := by
  obtain ⟨legal, -, figure⟩ := snapshots b build
  intro i stands
  rw [completed_bank] at stands ⊢
  split_ifs at stands ⊢
  · exact compose_read b result gen _ legal figure
  · rcases stands with h | h <;> cases h
  · exact pictures i stands

/-! ### POWER_ON (R164) -/

theorem Builder.reset_banksLaw : Builder.reset.BanksLaw := ⟨rfl, Nat.zero_le 1, by decide, Nat.zero_le _⟩

theorem Builder.reset_pictureLaw : Builder.reset.PictureLaw := by
  intro i stands
  match i with
  | 0 => exact ⟨⟨Header.reset, ⟨0, 0⟩, .none, [], rfl, fun _ mem => nomatch mem⟩, by decide⟩
  | 1 => rcases stands with h | h <;> cases h
  | 2 => rcases stands with h | h <;> cases h

theorem Builder.reset_snapshotLaw : Builder.reset.SnapshotLaw := fun _ build => nomatch build

/-! ### Every command -/

theorem exec_banksLaw (c : Instr) (s t : State) (law : s.builder.BanksLaw) (run : exec c s = .next t) :
    t.builder.BanksLaw := by
  by_cases powerOn : c = .powerOn
  · subst powerOn
    cases run
    exact Builder.reset_banksLaw
  by_cases completion : c = .buildCompletion
  · subst completion
    cases run
    rcases completeBuild_cases s with ⟨b, result, gen, build, h⟩ | h
    · rw [h]
      exact completed_banksLaw b result gen s build law
    · rw [h]
      exact law
  · exact (exec_keepsBanks c s t powerOn completion run).banks law

theorem exec_pictureLaw (c : Instr) (s t : State) (materials : s.Materials) (pictures : s.builder.PictureLaw)
    (snapshots : s.builder.SnapshotLaw) (run : exec c s = .next t) :
    t.builder.PictureLaw ∧ t.builder.SnapshotLaw := by
  by_cases powerOn : c = .powerOn
  · subst powerOn
    cases run
    exact ⟨Builder.reset_pictureLaw, Builder.reset_snapshotLaw⟩
  by_cases completion : c = .buildCompletion
  · subst completion
    cases run
    rcases completeBuild_cases s with ⟨b, result, gen, build, h⟩ | h
    · rw [h]
      exact ⟨completed_picture b result gen s build pictures snapshots, fun _ none => nomatch none⟩
    · rw [h]
      exact ⟨pictures, snapshots⟩
  · have kept := exec_keepsBanks c s t powerOn completion run
    exact ⟨kept.picture pictures, kept.snapshot materials snapshots⟩

end Sys2Proof.Machine

namespace Sys2Proof.Claims

open Sys2Proof.Machine

/-- Settles O10: a command leaves the banks as they are, or moves them through one of the operations of chapter 8; each
of these leaves one bank SHOWN. -/
theorem everyStepKeepsTheBanksLaw : Obligations.EveryStepKeepsTheBanksLaw := by
  intro s t law run
  unfold step at run
  split at run
  · cases run
    exact law
  · refine exec_banksLaw _ _ t ?_ run
    exact law

/-- Settles O11: a completed build alone writes into a bank, and what it writes is finished and short enough because its
snapshot was taken from legal settings and a lawful drag figure. -/
theorem everyStepKeepsThePictureLaw : Obligations.EveryStepKeepsThePictureLaw := by
  intro s t _ pictures snapshots tool settings view run
  unfold step at run
  split at run
  · cases run
    exact ⟨pictures, snapshots⟩
  · refine exec_pictureLaw _ _ t ?_ ?_ ?_ run
    · exact ⟨settings, view, tool.figure, tool.base⟩
    · exact pictures
    · exact snapshots

/-- Settles O12: a completed build writes into the BUILDING bank, and no other command but POWER_ON into any. -/
theorem shownBankStaysAsItIs : Obligations.ShownBankStaysAsItIs := by
  intro c s t i noPowerOn law run stands
  by_cases completion : c = .buildCompletion
  · subst completion
    cases run
    rcases completeBuild_cases s with ⟨b, result, gen, build, h⟩ | h
    · have building : (s.builder.banks[b.bank]).state = .building := (law.building _).2 (by rw [build]; rfl)
      have apart : i ≠ b.bank := by
        rintro rfl
        rw [building] at stands
        rcases stands with h | h <;> cases h
      rw [h, completed_bank, if_neg apart]
      split <;> rfl
    · rw [h]
  · exact (exec_keepsBanks c s t noPowerOn completion run).entries i

end Sys2Proof.Claims

/-! ## BUILD_START, TABLE_GRANT and RESOLUTION_END for a build (R100, R148 to R152) -/

namespace Sys2Proof.Machine

open Sys2Proof.Claims

/-! ### Build start (R148 to R151) -/

theorem exec_buildStart (s : State) : exec .buildStart s = .next (tryBuildStart s) := rfl

theorem buildDue_iff (s : State) :
    buildDue s = true ↔ s.builder.rebuild = true ∧ s.builder.build = none ∧ s.engine = .run := by
  simp [buildDue, and_assoc]

theorem freeBank_eq_some (s : State) (bank : Fin 3) (lowest : LowestFree s bank) :
    freeBank s.builder.banks = some bank := by
  obtain ⟨free, below⟩ := lowest
  unfold freeBank
  match bank with
  | 0 => exact List.find?_cons_of_pos (by simpa using free)
  | 1 =>
    have h0 := below 0 (by decide)
    simp_all
  | 2 =>
    have h0 := below 0 (by decide)
    have h1 := below 1 (by decide)
    simp_all

/-- A build start without an apply takes the lowest FREE bank for the sort of its snapshot (R148, R150, R151). -/
theorem exec_buildStart_due (s : State) (bank : Fin 3) (lowest : LowestFree s bank) (due : buildDue s = true)
    (noApply : s.applyPending = false) :
    exec .buildStart s = .next (afterSnapshot (buildSort (copied s))
      (building bank (buildSort (copied s)) (firstPhase (buildSort (copied s)) s.table.generation) s)) := by
  rw [exec_buildStart, tryBuildStart_free s bank (freeBank_eq_some s bank lowest) due noApply, beginBuild_eq]
  rfl

theorem buildSort_absent (s : State) (outside : s.link.condition ≠ .inside) : buildSort (copied s) = .absent := by
  unfold buildSort
  have condition : (copied s).condition = s.link.condition := rfl
  rw [condition]
  cases h : s.link.condition with
  | inside => exact absurd h outside
  | none => rfl
  | out => rfl

theorem buildSort_menu (s : State) (w : MenuId) (cell : BitVec 8) (inside : s.link.condition = .inside)
    (decoding : decodeWindow s.active s.link.f = ⟨.menu, some (w, cell)⟩) : buildSort (copied s) = .menu w cell := by
  unfold buildSort copied
  dsimp only
  rw [inside, decoding]

theorem buildSort_cursor (s : State) (inside : s.link.condition = .inside)
    (noMenu : (decodeWindow s.active s.link.f).mode ≠ .menu) :
    buildSort (copied s) = .cursor (cursorPoint s.active s.builder.view s.link.f)
      (decodeWindow s.active s.link.f).mode := by
  unfold buildSort copied
  dsimp only
  rw [inside]
  dsimp only
  split
  · rename_i decoding
    rw [decoding] at noMenu
    exact absurd rfl noMenu
  · rename_i decoding
    rw [decoding]

/-- The emptying of the capture, as at a menu build (R114, R152). -/
theorem emptyCapture_eq_ite (s : State) : emptyCapture s = { s with
    resolver :=
      if s.resolver.resolution = none then { s.resolver with capture := none }
      else { s.resolver with emptying := true } } := by
  unfold emptyCapture
  by_cases idle : s.resolver.resolution = none
  · rw [if_pos idle, if_pos idle]
    rfl
  · rw [if_neg idle, if_neg idle]
    rfl

theorem request_build_alone (s : State) (free : s.arbiter.holder = none)
    (nobody : ∀ r, s.arbiter.waiting.get r = false) :
    request .build s = { s with arbiter := { s.arbiter with holder := some .build, turn := .build } } := by
  rw [request_alone .build s free nobody]
  unfold grantTo
  rw [Requests.set_false _ _ (nobody .build)]
  rfl

/-! ### Its grant and its resolution (R100, R113, R152) -/

/-- The grant of a build that waits begins its resolution with its snapshot's inputs (R100, R101, R152). -/
theorem tableGrant_build (s : State) (b : Build) (c : Point) (mode : Mode) (build : s.builder.build = some b)
    (sort : b.sort = .cursor c mode) (phase : b.phase = .waiting) (held : s.arbiter.holder = some .build) :
    tableGrant s =
      startResolution c mode b.snapshot.settings b.snapshot.view.scale
        (constraintAnchor b.snapshot.settings.toolInForce b.snapshot.context b.snapshot.drag)
        (s.withBuilder { s.builder with build := some { b with phase := .resolving } }) := by
  obtain ⟨bank, number, snap, _, _⟩ := b
  cases sort
  cases phase
  unfold tableGrant
  rw [arbitrate_held s .build held]
  dsimp only
  rw [held]
  dsimp only
  unfold beginBuildResolution
  rw [build]

/-- The end of a build's resolution hands result and table generation to the composition and releases the grant; with
the build in flight no build start waits for that release (R113, R149, R152). -/
theorem resolutionEnds_build (s : State) (b : Build) (i : ResolutionInputs) (build : s.builder.build = some b)
    (phase : b.phase = .resolving) (held : s.arbiter.holder = some .build)
    (nobody : ∀ r, s.arbiter.waiting.get r = false) (resolution : s.resolver.resolution = some i) :
    resolutionEnds s = { endResolution (resolve i s.table) s with
      builder := { s.builder with
        build := some { b with phase := .composing (some (resolve i s.table)) s.table.generation } }
      arbiter := { s.arbiter with holder := none } } := by
  obtain ⟨bank, number, snap, sort, _⟩ := b
  cases phase
  unfold resolutionEnds
  rw [resolution]
  dsimp only [endResolution_arbiter]
  rw [held]
  dsimp only
  unfold endBuildResolution
  rw [show (endResolution (resolve i s.table) s).builder.build = _ from build]
  dsimp only
  generalize next : (endResolution (resolve i s.table) s).withBuilder _ = u
  have busy : buildDue (freeHolder u) = false := by
    rw [← next]
    simp [buildDue, freeHolder, State.withArbiter, State.withBuilder]
  unfold releaseGrant
  dsimp only
  rw [busy, Bool.false_and, if_neg Bool.false_ne_true, arbitrate_of_nobody _ (by rw [← next]; exact nobody), ← next]
  rfl

end Sys2Proof.Machine

namespace Sys2Proof.Claims

open Sys2Proof.Machine

/-- Settles O52: without its conditions the start is no event; with them the sort of the snapshot says what follows. -/
theorem buildStartTakesTheLowestFreeBank : Obligations.BuildStartTakesTheLowestFreeBank := by
  intro s
  refine ⟨fun undue => ?_, fun bank lowest rebuild idle run noApply => ?_⟩
  · have notDue : buildDue s = false := by
      rw [Bool.eq_false_iff, ne_eq, buildDue_iff]
      rintro ⟨rebuild, idle, run⟩
      rcases undue with h | h | h
      · rw [rebuild] at h
        cases h
      · exact h idle
      · rw [run] at h
        cases h
    rw [exec_buildStart, tryBuildStart_idle s notDue]
  · intro composing decoding
    have starts := exec_buildStart_due s bank lowest ((buildDue_iff s).2 ⟨rebuild, idle, run⟩) noApply
    refine ⟨fun outside => ?_, fun w cell inside menu => ?_, fun inside noMenu => ?_⟩
    · rw [starts, buildSort_absent s outside]
      rfl
    · rw [starts, buildSort_menu s w cell inside menu]
      exact congrArg _ (emptyCapture_eq_ite _)
    · rw [starts, buildSort_cursor s inside noMenu]
      refine ⟨fun free nobody => congrArg _ (request_build_alone _ free nobody), fun held => ?_⟩
      obtain ⟨x, holder⟩ := Option.ne_none_iff_exists'.1 held
      exact congrArg _ (request_held .build x _ holder)

/-- Settles O54: TABLE_GRANT and RESOLUTION_END for a build that holds the grant. -/
theorem buildResolvesUnderItsGrant : Obligations.BuildResolvesUnderItsGrant := by
  intro s b c mode build sort held snap
  refine ⟨fun phase => ?_, fun phase nobody i resolution => ?_⟩
  · rw [exec_tableGrant, tableGrant_build s b c mode build sort phase held, startResolution_eq,
      constraintAnchor_eq_anchorOf]
    rfl
  · rw [exec_resolutionEnd, resolutionEnds_build s b i build phase held nobody resolution]
    rfl

end Sys2Proof.Claims

/-! ## BUILD_COMPLETION, STAGED_VIEW_WRITE, FRAME_START, STREAM and STREAM_REWIND (R153, R154, R163 to R167, R193) -/

namespace Sys2Proof.Machine

open Sys2Proof.Claims

theorem exec_buildCompletion (s : State) : exec .buildCompletion s = .next (completeBuild s) := rfl

theorem banksCompleted_eq_ofFn (banks : Vector Bank 3) (bank : Fin 3) (entries : List Entry) :
    banksCompleted banks bank entries = Vector.ofFn fun i =>
      if i = bank then ⟨.ready, entries ++ (banks[i]).entries.drop entries.length⟩
      else if (banks[i]).state = .ready then { banks[i] with state := .free } else banks[i] := by
  refine Vector.ext fun i inBanks => ?_
  rw [Vector.getElem_ofFn]
  exact banksCompleted_getElem banks bank ⟨i, inBanks⟩ entries

/-! ### View and frame start (R165, R166) -/

theorem clampInt_eq (lo hi v : Int) (ordered : lo ≤ hi) : clampInt lo hi v = max lo (min hi v) := by
  unfold clampInt
  split_ifs <;> omega

theorem StagedView.clamped_eq (v : StagedView) : v.clamped =
    ⟨max (-8388608) (min 8388607 v.ox.toInt), max (-8388608) (min 8388607 v.oy.toInt),
      max 1 (min 16777215 v.scale.toInt), max 1 (min 4096 v.width.toInt), max 1 (min 4096 v.height.toInt)⟩ := by
  unfold StagedView.clamped
  rw [sat_eq, sat_eq, clampInt_eq _ _ _ (by decide), clampInt_eq _ _ _ (by decide), clampInt_eq _ _ _ (by decide)]
  rfl

/-- A frame start commits a written view, shows the READY bank and rewinds the stream (R166). -/
theorem frameStart_eq (s : State) : frameStart s = { s with
    dispNotices :=
      if s.builder.stagedWritten = true ∧ s.builder.staged.clamped ≠ s.builder.staged.signed then
        { s.dispNotices with raised := s.dispNotices.raised ||| 4 }
      else s.dispNotices
    builder := { s.builder with
      view := if s.builder.stagedWritten then s.builder.staged.clamped else s.builder.view
      viewGen := if s.builder.stagedWritten then s.builder.viewGen + 1 else s.builder.viewGen
      rebuild := s.builder.rebuild || s.builder.stagedWritten
      stagedWritten := false
      banks := rotated s.builder.banks
      streamPtr := 0 } } := by
  unfold frameStart commitView
  cases written : s.builder.stagedWritten with
  | false => simp [State.withBuilder, ← written]
  | true =>
    by_cases clamps : s.builder.staged.clamped ≠ s.builder.staged.signed
    · simp only [if_pos clamps, true_and]
      rfl
    · simp only [if_neg clamps, true_and]
      rfl

/-! ### The words of the stream (R167, R193) -/

theorem Entry.words_length (e : Entry) : e.words.length = 3 := by cases e <;> rfl

theorem Bank.streamed_length (b : Bank) : b.streamed.length = 3 * (upToEnd b.entries).length := by
  unfold Bank.streamed
  rw [List.length_flatMap, funext Entry.words_length, List.map_const', List.sum_replicate, smul_eq_mul, Nat.mul_comm]

theorem Feature.code_eq_number (f : Feature) : f.code = featureNumber f := by cases f <;> rfl

theorem strokeWord_eq_form (type : Nat) (style : Style) (layer : Layer) :
    strokeWord type style layer = strokeForm type style layer := by
  unfold strokeWord strokeForm
  rw [Nat.mul_comm type, Nat.mul_comm style.code]
  cases style <;> cases layer <;> rfl

theorem Header.flags_eq (h : Header) : h.flags =
    BitVec.ofNat 32 (flag h.absent + 2 * flag (h.link == .degraded) + 4 * flag (h.link == .offline)
      + 8 * flag h.menu.isSome + 16 * flag h.captured + 32 * flag h.constrained
      + 256 * (h.menu.map fun m => windowNumber m.1).getD 0 + 65536 * (h.menu.map fun m => m.2.toNat).getD 0) := by
  unfold Header.flags
  rcases h.menu with _ | ⟨w, cell⟩
  · rfl
  · cases w <;> rfl

/-- The layout of an entry (R193). -/
theorem Entry.words_eq (e : Entry) : e.words = entryWords e := by
  cases e with
  | header h =>
    dsimp only [Entry.words, entryWords]
    rw [Header.flags_eq, Nat.mul_comm 65536 h.viewGen.toNat, Nat.mul_comm 65536 h.report.toNat]
  | cursorInfo p f =>
    dsimp only [Entry.words, entryWords]
    rw [Feature.code_eq_number]
    rfl
  | move p style layer =>
    dsimp only [Entry.words, entryWords]
    rw [strokeWord_eq_form]
    rfl
  | draw p style layer =>
    dsimp only [Entry.words, entryWords]
    rw [strokeWord_eq_form]
    rfl
  | endMark => rfl

theorem exec_stream (s : State) : exec .stream s = .next (accessed .disp locStream (readStream s)) := rfl

/-- The SHOWN bank's number is the one whose words the stream has (R164, R167). -/
theorem Builder.BanksLaw.streams {b : Builder} (law : b.BanksLaw) {i : Fin 3} (shown : (b.banks[i]).state = .shown) :
    shownWords b = (b.banks[i]).streamed := by
  obtain ⟨j, shows⟩ := b.banksLaw_iff.1 law
  obtain rfl := (shows.shown i).1 shown
  exact shownWords_eq b i shows.shown

end Sys2Proof.Machine

namespace Sys2Proof.Claims

open Sys2Proof.Machine

/-- Settles O55: the banks one by one, and the rest of the builder as the completion leaves it. -/
theorem buildCompletionMakesItsBankReady : Obligations.BuildCompletionMakesItsBankReady := by
  intro s b result gen build phase entries
  rw [exec_buildCompletion, completeBuild_composing s b result gen build phase]
  unfold completed
  rw [banksCompleted_eq_ofFn]
  unfold lastDrawingAfter
  rfl

/-- Settles O57: a staged field is stored as written; the banks of a frame start are those of `rotated_getElem`. -/
theorem frameStartShowsTheReadyBank : Obligations.FrameStartShowsTheReadyBank := by
  intro s v b
  refine ⟨fun field => ?_, ?_⟩
  · cases field
    all_goals exact ⟨_, _, rfl, rfl⟩
  · intro st view asWritten ready
    have clamped : st.clamped = view := st.clamped_eq
    refine ⟨rotated b.banks, fun i => ?_, ?_⟩
    · rw [rotated_getElem]
      exact ⟨rfl, fun unready => if_neg unready, fun isReady => if_pos isReady⟩
    · rw [← clamped]
      exact congrArg (fun t => Host.Outcome.next (accessed .disp locFrameStart t)) (frameStart_eq s)

/-- Settles O58: the stream has the words of the one SHOWN bank, and the pointer names one of them or stands past the
last. -/
theorem streamReadsTheShownBank : Obligations.StreamReadsTheShownBank := by
  refine ⟨Entry.words_eq, fun l rest noEnd => ⟨upToEnd_finished l rest noEnd, ?_⟩, fun s i v law shown => ?_⟩
  · have whole := upToEnd_append l [] noEnd
    rwa [List.append_nil, show upToEnd [] = [] from rfl, List.append_nil] at whole
  · intro words
    have streams : shownWords s.builder = words := law.streams shown
    refine ⟨Bank.streamed_length _, fun w word => ?_, fun past => ?_, rfl⟩
    · obtain ⟨inside, -⟩ := List.getElem?_eq_some_iff.1 word
      have read : streamWord s = w := by
        unfold streamWord
        rw [streams, List.getD_eq_getElem?_getD, word]
        rfl
      rw [exec_stream, readStream, advanceStream_eq, read, streams, if_pos inside]
      rfl
    · have read : streamWord s = endWord := by
        unfold streamWord
        rw [streams, past, List.getD_eq_default _ _ le_rfl]
      rw [exec_stream, readStream, advanceStream_eq, read, streams, past, if_neg (lt_irrefl _), ← past]
      rfl

end Sys2Proof.Claims

/-! ## The elements of a picture (R153 to R162, R21, R22) -/

namespace Sys2Proof.Machine

open Sys2Proof.Claims

theorem stroke_eq_strokes (style : Style) (layer : Layer) (l : List Point) :
    stroke style layer l = strokes style layer l := by
  cases l <;> rfl

/-- A display length in world units, rounded up (R10). -/
theorem Snapshot.length_eq (snap : Snapshot) (m : Half) :
    snap.length m = (m.toNat * snap.view.scale + 255) / 256 := by
  show (m.toNat * snap.view.scale + 256 - 1) / 256 = _
  rw [Int.add_sub_assoc]
  rfl

theorem crosshair_apertureBox_eq (snap : Snapshot) (c : Point) (mode : Mode) :
    crosshair snap c ++ apertureBox snap c mode = aboutCursor snap c mode := by
  unfold crosshair apertureBox aboutCursor crosshairStyle
  simp only [Snapshot.length_eq]
  rfl

theorem marker_eq_markerAt (snap : Snapshot) (r : Resolution) : marker snap r = markerAt snap r.feature r.s := by
  unfold marker markerAt
  rw [Snapshot.length_eq]
  cases r.feature <;> rfl

theorem cosineTable_eq (k : Nat) : cosineTable k = cosineAt k := rfl

/-- The four quarters of the circle (R22). -/
theorem chordVertex_eq_vertex (c : Point) (r : Int) (n j : Nat) : chordVertex c r n j = vertex c r n j := by
  unfold chordVertex vertex cosSin
  dsimp only
  generalize j * (64 / n) = a
  rcases h : a / 16 with _ | _ | _ | q
  all_goals simp [cosineTable_eq, satAt, satPoint]

theorem circlePoints_eq (c : Point) (r : Int) (n : Nat) :
    circlePoints c r n = (List.range n).map (vertex c r n) ++ [vertex c r n 0] := by
  unfold circlePoints
  rw [chordVertex_eq_vertex, funext (chordVertex_eq_vertex c r n)]

theorem lineBand_eq (snap : Snapshot) (e : Point) : lineBand snap e =
    (snap.context.last.map fun p =>
      if snap.context.count = 0 then [] else strokes .solid .rubber [p, e]).getD [] := by
  unfold lineBand
  cases snap.context.last <;> rfl

theorem closeHint_eq (snap : Snapshot) (e : Point) : closeHint snap e =
    (snap.context.first.map fun p =>
      if 2 ≤ snap.context.count.toNat ∧ snap.settings.closeHint ≠ 0 then strokes .dashed .rubber [e, p]
      else []).getD [] := by
  unfold closeHint
  cases snap.context.first <;> rfl

/-- The rubber band by tool (R160 to R162). -/
theorem rubberBand_eq_bandTo (snap : Snapshot) (e : Point) : rubberBand snap e = bandTo snap e := by
  unfold rubberBand bandTo
  dsimp only
  cases snap.settings.toolInForce with
  | none => rfl
  | line => exact lineBand_eq snap e
  | polyline =>
    dsimp only
    rw [lineBand_eq, closeHint_eq]
  | rect =>
    unfold rectBand
    cases snap.context.first with
    | none => rfl
    | some a => simp only [Option.map_some, Option.getD_some, beq_iff_eq, stroke_eq_strokes]
  | circle =>
    unfold circleBand
    cases snap.context.first with
    | none => rfl
    | some a => simp only [Option.map_some, Option.getD_some, beq_iff_eq, stroke_eq_strokes, circlePoints_eq]
  | move =>
    unfold dragBand
    cases snap.drag.base with
    | none => rfl
    | some base => rfl

theorem bandEntries_none (b : Build) :
    bandEntries b none = (b.snapshot.lastDrawing.map (bandTo b.snapshot)).getD [] := by
  unfold bandEntries endPointOf
  cases b.snapshot.lastDrawing with
  | none => rfl
  | some e => exact rubberBand_eq_bandTo _ e

theorem compose_cursor (b : Build) (c : Point) (mode : Mode) (r : Resolution) (gen : Half)
    (sort : b.sort = .cursor c mode) :
    compose b (some r) gen =
      .header (headerOf b (some r) gen) :: .cursorInfo r.s r.feature :: aboutCursor b.snapshot c mode
        ++ markerAt b.snapshot r.feature r.s ++ bandTo b.snapshot r.s ++ [.endMark] := by
  have about : cursorEntries b (some r) = aboutCursor b.snapshot c mode ++ markerAt b.snapshot r.feature r.s := by
    unfold cursorEntries
    rw [sort]
    dsimp only
    rw [crosshair_apertureBox_eq, marker_eq_markerAt]
  have band : bandEntries b (some r) = bandTo b.snapshot r.s := rubberBand_eq_bandTo _ r.s
  unfold compose
  rw [about, band, ← List.append_assoc]
  rfl

/-- A picture without a resolution's result has no element about a cursor (R153). -/
theorem compose_still (b : Build) (gen : Half) :
    compose b none gen =
      .header (headerOf b none gen) :: .cursorInfo ⟨0, 0⟩ .none
        :: (b.snapshot.lastDrawing.map (bandTo b.snapshot)).getD [] ++ [.endMark] := by
  have nothing : cursorEntries b none = [] := by
    unfold cursorEntries
    cases b.sort <;> rfl
  unfold compose
  rw [nothing, bandEntries_none, List.append_nil]
  rfl

end Sys2Proof.Machine

namespace Sys2Proof.Claims

open Sys2Proof.Machine

/-- Settles O56: each element of the composition is the element of the statement. -/
theorem cursorPictureHasItsElements : Obligations.CursorPictureHasItsElements := by
  intro b gen snap header still
  refine ⟨fun c mode r sort => ?_, fun w cell sort => ?_, fun sort => ?_⟩
  · have head : Entry.header (headerOf b (some r) gen) = header none r.captured r.constrained := by
      simp only [headerOf, header, sort]
      rfl
    rw [compose_cursor b c mode r gen sort, head]
  · have head : Entry.header (headerOf b none gen) = header (some (w, cell)) false false := by
      simp only [headerOf, header, sort]
      rfl
    rw [compose_still, head]
    rfl
  · have head : Entry.header (headerOf b none gen) = header none false false := by
      simp only [headerOf, header, sort]
      rfl
    rw [compose_still, head]
    rfl

end Sys2Proof.Claims

/-! ## What a pick is asked: the inputs of the slots under every command (R171, R174) -/

namespace Sys2Proof.Machine

/-- The input fields of a slot (R171). -/
structure PickQuestion where
  x : Word
  y : Word
  aperture : Word
  choice : Word
  mask : Half
  matchTag : Half
  enables : BitVec 6

def PickSlot.question (p : PickSlot) : PickQuestion :=
  ⟨p.x, p.y, p.aperture, p.choice, p.mask, p.matchTag, p.enables⟩

/-- The inputs of both slots. -/
def State.questions (s : State) : PickQuestion × PickQuestion := (s.pick0.question, s.pick1.question)

theorem State.question_of_questions {s t : State} (same : t.questions = s.questions) (i : PickId) :
    (t.pick i).question = (s.pick i).question := by
  cases i with
  | pick0 => exact congrArg Prod.fst same
  | pick1 => exact congrArg Prod.snd same

/-- A change of state leaves the inputs of every busy slot (R171). -/
def KeepsBusy (s t : State) : Prop :=
  ∀ i, (s.pick i).control ≠ .idle → (t.pick i).question = (s.pick i).question

theorem KeepsBusy.of_questions {s t : State} (same : t.questions = s.questions) : KeepsBusy s t :=
  fun i _ => State.question_of_questions same i

/-! ### The shared operations -/

theorem LinkFrame.questions {s t : State} (h : LinkFrame s t) : t.questions = s.questions := by
  obtain ⟨l, n, r, rfl⟩ := h
  rfl

theorem ListFrame.questions {s t : State} (h : ListFrame s t) : t.questions = s.questions := by
  obtain ⟨u, n, rfl⟩ := h
  rfl

/-- A grant changes no more of a slot than its control state (R173). -/
theorem arbitrate_questions (s : State) : (arbitrate s).questions = s.questions := by
  obtain ⟨a, f, p, q, h⟩ := arbitrate_frame s
  rw [h]
  rfl

theorem request_questions (r : Requester) (s : State) : (request r s).questions = s.questions :=
  arbitrate_questions (s.withArbiter { s.arbiter with waiting := s.arbiter.waiting.set r true })

theorem accessed_questions (port : PortId) (loc : Nat) (s : State) : (accessed port loc s).questions = s.questions := by
  obtain ⟨p, h⟩ := accessed_frame port loc s
  rw [h]
  rfl

theorem settleReset_questions (s : State) : (settleReset s).questions = s.questions := by
  rcases settleReset_cases s with ⟨-, -, -, h⟩ | h
  · rw [h]
    rfl
  · rw [h]

theorem emptyCapture_questions (s : State) : (emptyCapture s).questions = s.questions := by
  rw [emptyCapture_eq]
  rfl

theorem takeApply_questions (s : State) : (takeApply s).questions = s.questions := by
  obtain ⟨l, n, c, d, h⟩ := takeApply_frame s
  rw [h]
  rfl

/-! ### The pick unit (R173, R176, R177) -/

theorem withPick_questions (i : PickId) (p : PickSlot) (s : State) (same : p.question = (s.pick i).question) :
    (s.withPick i p).questions = s.questions := by
  cases i with
  | pick0 => exact congrArg (·, s.pick1.question) same
  | pick1 => exact congrArg (s.pick0.question, ·) same

theorem raisePickDone_questions (i : PickId) (s : State) : (raisePickDone i s).questions = s.questions := by
  cases i <;> rfl

theorem startPick_questions (i : PickId) (s : State) : (startPick i s).questions = s.questions :=
  (request_questions _ _).trans (withPick_questions i _ s rfl)

theorem abortPick_questions (i : PickId) (s : State) : (abortPick i s).questions = s.questions := by
  have aborted (p : PickSlot) (same : p.question = (s.pick i).question) :
      ((withdraw (pickRequester i) s).withPick i p).questions = s.questions :=
    withPick_questions i p (withdraw (pickRequester i) s) (by cases i <;> exact same)
  unfold abortPick
  dsimp only
  split
  · rfl
  · exact (raisePickDone_questions i _).trans (aborted _ rfl)

/-- A write to a busy slot is ignored but for WRITE_BLOCKED, and a write to GO reaches no input (R174). -/
theorem writePick_keepsBusy (i : PickId) (input : PickInput) (v : Word) (s : State) :
    KeepsBusy s (writePick i input v s) := by
  unfold writePick
  dsimp only
  split_ifs with waits go one
  · exact .of_questions (withPick_questions i _ s rfl)
  · exact .of_questions (startPick_questions i s)
  · exact .of_questions rfl
  · intro j busy
    cases i <;> cases j
    case pick0.pick0 => exact absurd busy waits
    case pick1.pick1 => exact absurd busy waits
    case pick0.pick1 => rfl
    case pick1.pick0 => rfl

/-! ### Builds and releases (R148, R149) -/

theorem beginBuild_questions (bank : Fin 3) (s : State) : (beginBuild bank s).questions = s.questions := by
  rw [beginBuild_eq]
  cases buildSort (takeSnapshot s) with
  | cursor c mode => exact request_questions _ _
  | menu window cell => exact emptyCapture_questions _
  | absent => rfl

theorem makeBuildStart_questions (s : State) : (makeBuildStart s).questions = s.questions := by
  unfold makeBuildStart
  split
  · rfl
  · refine (beginBuild_questions _ _).trans ?_
    split
    · exact takeApply_questions s
    · rfl

theorem tryBuildStart_questions (s : State) : (tryBuildStart s).questions = s.questions := by
  unfold tryBuildStart
  split_ifs
  · rfl
  · rfl
  · exact makeBuildStart_questions s

theorem releaseGrant_questions (s : State) : (releaseGrant s).questions = s.questions := by
  unfold releaseGrant
  refine (arbitrate_questions _).trans ?_
  split
  · exact makeBuildStart_questions (freeHolder s)
  · rfl

theorem resetBuilder_questions (s : State) : (resetBuilder s).questions = s.questions := by
  unfold resetBuilder
  dsimp only
  split <;> rfl

theorem PickSlot.answered_question (p : PickSlot) (best : Option Candidate) :
    PickSlot.question { p.withResult best with aborted := false, control := .idle } = p.question := by
  cases best <;> rfl

/-- The search reads the inputs of its slot and writes its results (R175, R176). -/
theorem pickCompletes_questions (s : State) : (pickCompletes s).questions = s.questions := by
  have completed (i : PickId) : (completePick i s).questions = s.questions := by
    unfold completePick
    rw [releaseGrant_questions, raisePickDone_questions, withPick_questions]
    exact PickSlot.answered_question _ _
  unfold pickCompletes
  split
  · split
    · exact completed .pick0
    · rfl
  · split
    · exact completed .pick1
    · rfl
  all_goals rfl

/-! ### Lists and cells (R81 to R96) -/

theorem applyWaitingDrag_questions (s : State) : (applyWaitingDrag s).questions = s.questions := by
  unfold applyWaitingDrag
  split
  · split <;> rfl
  · rfl

theorem dispatch_questions (f : InFlight) (c : Cell) (s : State) : (dispatch f c s).questions = s.questions := by
  unfold dispatch
  split_ifs
  · exact request_questions .update (waitWith f c s)
  all_goals rfl

theorem fetchCompletes_questions (reply : FetchReply) (s : State) :
    (fetchCompletes reply s).questions = s.questions := by
  unfold fetchCompletes
  split
  · unfold fetchDone
    split
    · exact settleReset_questions _
    · split
      · exact (endList_frame _ _ s).questions
      · split
        · exact dispatch_questions _ _ s
        · exact (endList_frame _ _ s).questions
  · rfl

theorem cellApplies_questions (s : State) : (cellApplies s).questions = s.questions := by
  unfold cellApplies
  split
  · exact releaseGrant_questions _
  · rfl

theorem boundaryAfterWrite_questions (busError : Bool) (s : State) :
    (boundaryAfterWrite busError s).questions = s.questions := by
  unfold boundaryAfterWrite
  split
  · exact settleReset_questions _
  · exact settleReset_questions _

theorem followLink_questions (f : InFlight) (c : Cell) (s : State) : (followLink f c s).questions = s.questions := by
  unfold followLink
  split_ifs
  · exact (endList_frame _ _ s).questions
  · exact (endList_frame _ _ s).questions
  · rfl

theorem tearDown_questions (f : InFlight) (c : Cell) (s : State) : (tearDown f c s).questions = s.questions := by
  unfold tearDown
  split_ifs
  · exact (endList_frame _ _ s).questions
  · exact (endList_frame _ _ s).questions
  · rfl

theorem writeBackCompletes_questions (handleError controlError : Bool) (s : State) :
    (writeBackCompletes handleError controlError s).questions = s.questions := by
  unfold writeBackCompletes
  split
  · unfold writeBackDone
    split_ifs
    · exact boundaryAfterWrite_questions _ (showWrites _ s)
    · exact (endList_frame _ _ (showWrites _ s)).questions
    · exact tearDown_questions _ _ (showWrites _ s)
    · exact followLink_questions _ _ (showWrites _ s)
  · rfl

theorem markingCompletes_questions (busError : Bool) (s : State) :
    (markingCompletes busError s).questions = s.questions := by
  unfold markingCompletes
  split
  · unfold markingDone
    split
    · exact boundaryAfterWrite_questions _ (showWrites _ s)
    · exact (endList_frame _ _ (showWrites _ s)).questions
  · rfl

theorem updateTeardown_questions (s : State) : (updateTeardown s).questions = s.questions := by
  rw [updateTeardown_eq]
  rfl

/-! ### Commits and resolutions (R120, R126 to R138) -/

theorem endCommit_questions (c : CommitInHand) (s : State) : (endCommit c s).questions = s.questions := by
  have handled : (handlePress c (s.withTool { s.tool with commit := none })).questions = s.questions := by
    rw [handlePress_eq]
    rfl
  have applied := (applyWaitingDrag_questions _).trans handled
  unfold endCommit
  refine (releaseGrant_questions _).trans ((settleReset_questions _).trans ?_)
  split
  · exact applied
  · exact applied

theorem commitPoint_questions (c : CommitInHand) (s : State) : (commitPoint c s).questions = s.questions := by
  unfold commitPoint
  split
  · exact (endCommit_questions c _).trans (emptyCapture_questions s)
  · rfl

theorem commitAccepted_questions (c : CommitInHand) (s : State) : (commitAccepted c s).questions = s.questions := by
  unfold commitAccepted
  split
  · exact endCommit_questions c _
  · exact endCommit_questions c _
  · exact commitPoint_questions c s
  · exact commitPoint_questions c s

theorem beginCommit_questions (c : CommitInHand) (s : State) : (beginCommit c s).questions = s.questions := by
  have applied : (if s.applyPending then takeApply s else s).questions = s.questions := by
    split
    · exact takeApply_questions s
    · rfl
  unfold beginCommit
  dsimp only
  refine Eq.trans ?_ applied
  split
  · exact endCommit_questions c _
  · exact commitAccepted_questions c _

theorem beginBuildResolution_questions (s : State) : (beginBuildResolution s).questions = s.questions := by
  unfold beginBuildResolution
  split <;> rfl

theorem beginGrantedCell_questions (s : State) : (beginGrantedCell s).questions = s.questions := by
  unfold beginGrantedCell
  split <;> rfl

theorem tableGrant_questions (s : State) : (tableGrant s).questions = s.questions := by
  unfold tableGrant
  refine Eq.trans ?_ (arbitrate_questions s)
  dsimp only
  split
  · unfold beginGrantedCommit
    split
    · exact beginCommit_questions _ _
    · rfl
  · exact beginBuildResolution_questions _
  · exact beginGrantedCell_questions _
  all_goals rfl

theorem tryCommitStart_questions (s : State) : (tryCommitStart s).questions = s.questions := by
  unfold tryCommitStart
  split
  · split
    · exact request_questions _ _
    · rfl
  · rfl

theorem finishCommit_questions (c : CommitInHand) (r : Resolution) (s : State) :
    (finishCommit c r s).questions = s.questions := by
  unfold finishCommit
  split
  · exact endCommit_questions c _
  · exact endCommit_questions c _
  · rfl
  · rfl

theorem resolutionEnds_questions (s : State) : (resolutionEnds s).questions = s.questions := by
  unfold resolutionEnds
  split
  · rfl
  · rename_i inputs _
    generalize resolve inputs s.table = r
    refine Eq.trans ?_ (show (endResolution r s).questions = s.questions from rfl)
    dsimp only
    split
    · unfold endBuildResolution
      split
      · exact releaseGrant_questions _
      · rfl
    · unfold endCommitResolution
      split
      · exact finishCommit_questions _ r _
      · rfl
    · rfl

/-! ### The builder's other operations, and the reset (R163 to R169, R183) -/

theorem frameStart_questions (s : State) : (frameStart s).questions = s.questions := by
  obtain ⟨b, n, h⟩ := frameStart_frame s
  rw [h]
  rfl

theorem completeBuild_questions (s : State) : (completeBuild s).questions = s.questions := by
  obtain ⟨b, n, h⟩ := completeBuild_frame s
  rw [h]
  rfl

theorem readStream_questions (s : State) : (readStream s).questions = s.questions :=
  show (advanceStream s).questions = s.questions by
    rw [advanceStream_eq]
    rfl

theorem resetTool_questions (s : State) : (resetTool s).questions = s.questions := by
  unfold resetTool
  split <;> rfl

theorem resetUpdate_questions (s : State) : (resetUpdate s).questions = s.questions := by
  unfold resetUpdate
  split <;> rfl

/-- An ENGINE_RESET keeps the inputs of the slots, aborted or not (R177, R178). -/
theorem engineReset_questions (s : State) : (engineReset s).questions = s.questions := by
  unfold engineReset
  split
  · unfold resetEngine
    dsimp only
    rw [arbitrate_questions, settleReset_questions, resetUpdate_questions, abortPick_questions, abortPick_questions,
      emptyCapture_questions, resetBuilder_questions, resetTool_questions, (resetLink_frame _).questions]
    rfl
  · rfl

theorem command_questions (code : Half) (s : State) : (command code s).questions = s.questions := by
  unfold command
  split
  · exact engineReset_questions s
  · exact (linkRestart_frame s).questions
  · rfl
  · exact updateTeardown_questions s
  · rfl
  · rfl
  · rfl

theorem clearNotices_questions (port : PortId) (v : Word) (s : State) :
    (clearNotices port v s).questions = s.questions := by
  cases port <;> rfl

theorem enableNotices_questions (port : PortId) (v : Word) (s : State) :
    (enableNotices port v s).questions = s.questions := by
  cases port <;> rfl

theorem disableNotices_questions (port : PortId) (v : Word) (s : State) :
    (disableNotices port v s).questions = s.questions := by
  cases port <;> rfl

/-! ### Ports and commands (R174, R179 to R181) -/

theorem KeepsBusy.accessed {s t : State} (h : KeepsBusy s t) (port : PortId) (loc : Nat) :
    KeepsBusy s (accessed port loc t) :=
  fun i busy => (State.question_of_questions (accessed_questions port loc t) i).trans (h i busy)

theorem KeepsBusy.accessed_of {s t : State} (port : PortId) (loc : Nat) (same : t.questions = s.questions) :
    KeepsBusy s (Machine.accessed port loc t) :=
  (KeepsBusy.of_questions same).accessed port loc

theorem staged_questions (st : Settings) (s : State) : State.questions { s with staged := st } = s.questions := rfl

theorem writeApp_keepsBusy (loc : Nat) (v : Word) (s : State) : KeepsBusy s (writeApp loc v s) := by
  unfold writeApp
  split_ifs
  · exact .of_questions (command_questions _ s)
  · exact .of_questions rfl
  · exact .of_questions rfl
  · exact .of_questions rfl
  · exact .of_questions rfl
  · exact .of_questions (submit_frame _ s).questions
  · exact .of_questions rfl
  · split
    · exact writePick_keepsBusy _ _ _ s
    · exact .of_questions rfl
  · exact .of_questions (staged_questions _ s)
  · exact .of_questions rfl

theorem writeDisp_keepsBusy (loc : Nat) (v : Word) (s : State) : KeepsBusy s (writeDisp loc v s) := by
  unfold writeDisp
  split_ifs
  · exact .of_questions rfl
  · exact .of_questions rfl
  · exact .of_questions rfl
  · exact .of_questions (frameStart_questions s)
  · exact .of_questions rfl
  · split
    · exact .of_questions rfl
    · exact .of_questions rfl
  · split
    · exact writePick_keepsBusy _ _ _ s
    · exact .of_questions rfl
  · exact .of_questions rfl

theorem portWrite_keepsBusy (port : PortId) (address : PortAddr) (v : Word) (s : State) :
    KeepsBusy s (portWrite port address v s) := by
  cases port <;> cases address
  case app.index => exact .of_questions rfl
  case disp.index => exact .of_questions rfl
  case app.data => exact (writeApp_keepsBusy _ v s).accessed _ _
  case disp.data => exact (writeDisp_keepsBusy _ v s).accessed _ _

theorem portRead_questions (port : PortId) (address : PortAddr) (s : State) :
    (portRead port address s).questions = s.questions := by
  cases port <;> cases address
  case app.index => rfl
  case disp.index => rfl
  case app.data => exact accessed_questions _ _ _
  case disp.data =>
    refine (accessed_questions _ _ _).trans ?_
    split
    · exact readStream_questions s
    · rfl

theorem writePickAt_keepsBusy (i : PickId) (input : PickInput) (v : Word) (s : State) :
    KeepsBusy s (writePickAt i input v s) := by
  unfold writePickAt
  split
  · exact .of_questions rfl
  · cases i
    case pick0 => exact (writePick_keepsBusy _ _ _ s).accessed _ _
    case pick1 => exact (writePick_keepsBusy _ _ _ s).accessed _ _

/-- Every command but POWER_ON leaves the inputs of a busy slot: none but a write of the slot reaches them at all. -/
theorem exec_keepsBusy (c : Instr) (s t : State) (noPowerOn : c ≠ .powerOn) (run : exec c s = .next t) :
    KeepsBusy s t := by
  cases c <;> cases run
  case powerOn => exact absurd rfl noPowerOn
  case byteArrival time sound byte => exact .of_questions (takeByte_frame time sound byte s).questions
  case gapExpiry time => exact .of_questions (gapExpires_frame time s).questions
  case presenceExpiry time device => exact .of_questions (presenceExpires_frame time device s).questions
  case engineReset => exact .accessed_of _ _ (engineReset_questions s)
  case linkRestart => exact .accessed_of _ _ (linkRestart_frame s).questions
  case apply => exact .accessed_of _ _ rfl
  case updateTeardown => exact .accessed_of _ _ (updateTeardown_questions s)
  case updateAck => exact .accessed_of _ _ rfl
  case commitPop => exact .accessed_of _ _ rfl
  case submitHi value => exact .accessed_of _ _ (submit_frame value s).questions
  case fetchCompletion reply => exact .of_questions (fetchCompletes_questions reply s)
  case tableGrant => exact .of_questions (tableGrant_questions s)
  case cellApplication => exact .of_questions (cellApplies_questions s)
  case writeBackCompletion handleError controlError =>
    exact .of_questions (writeBackCompletes_questions handleError controlError s)
  case markingCompletion busError => exact .of_questions (markingCompletes_questions busError s)
  case commitStart => exact .of_questions (tryCommitStart_questions s)
  case resolutionEnd => exact .of_questions (resolutionEnds_questions s)
  case buildStart => exact .of_questions (tryBuildStart_questions s)
  case buildCompletion => exact .of_questions (completeBuild_questions s)
  case frameStart => exact .accessed_of _ _ (frameStart_questions s)
  case stream => exact .accessed_of _ _ (readStream_questions s)
  case streamRewind => exact .accessed_of _ _ rfl
  case stagedViewWrite field value => exact .accessed_of _ _ rfl
  case pickGo slot => exact writePickAt_keepsBusy slot .go 1 s
  case pickBlockedWrite slot input value => exact writePickAt_keepsBusy slot input value s
  case pickCompletion => exact .of_questions (pickCompletes_questions s)
  case noticeRaw port value => exact .accessed_of _ _ (clearNotices_questions port value s)
  case enableSet port value => exact .accessed_of _ _ (enableNotices_questions port value s)
  case enableClear port value => exact .accessed_of _ _ (disableNotices_questions port value s)
  case dataRead port address => exact .of_questions (portRead_questions port address s)
  case registerWrite port address value => exact portWrite_keepsBusy port address value s

end Sys2Proof.Machine

namespace Sys2Proof.Claims

open Sys2Proof.Machine

/-- Settles O13: a write of the slot is blocked while the slot is busy, and no other command but POWER_ON reaches the
inputs of a slot. -/
theorem busyPickSlotKeepsItsInputs : Obligations.BusyPickSlotKeepsItsInputs := by
  intro c s t i noPowerOn run busy
  have same := exec_keepsBusy c s t noPowerOn run i busy
  injection same with x y aperture choice mask matchTag enables
  exact ⟨x, y, aperture, choice, mask, matchTag, enables⟩

end Sys2Proof.Claims

/-! ## PICK_GO, PICK_BLOCKED_WRITE and PICK_COMPLETION (R171 to R176) -/

namespace Sys2Proof.Machine

open Sys2Proof.Claims

/-! ### Writes to a slot by their location (R174, R179, R195, R196) -/

/-- A value as the window of a slot takes it (R181; log 17). -/
def pickWord (i : PickId) (v : Word) : Word := if i = .pick0 then (v.extractLsb' 0 16).setWidth 32 else v

theorem pickWord_getLsbD_zero (i : PickId) (v : Word) : (pickWord i v).getLsbD 0 = decide (v.toNat % 2 = 1) := by
  have odd : v.getLsbD 0 = decide (v.toNat % 2 = 1) := Nat.testBit_zero _
  rw [← odd]
  cases i
  · simp [pickWord]
  · rfl

theorem go_mem_pickInputs (i : PickId) : PickInput.go ∈ pickInputs i := by cases i <;> decide

theorem pickLocation_eq (i : PickId) (input : PickInput) (mem : input ∈ pickInputs i) :
    pickLocation i input = some (pickFirst i + (pickInputs i).idxOf input) := by
  revert input
  cases i <;> decide

/-- No location of a slot holds INDEX (R179). -/
theorem holds_pick (i : PickId) (input : PickInput) (mem : input ∈ pickInputs i) :
    holds i.port (pickFirst i + (pickInputs i).idxOf input) = false := by
  revert input
  cases i <;> decide

theorem accessed_pick (i : PickId) (input : PickInput) (mem : input ∈ pickInputs i) (s : State) :
    accessed i.port (pickFirst i + (pickInputs i).idxOf input) s = { s with ports := indexPast i input s.ports } := by
  rw [accessed, indexAfter, holds_pick i input mem, if_neg Bool.false_ne_true]
  cases i <;> rfl

/-- A write of a slot through its window is the write of the slot, and moves INDEX past the location (R174, R179). -/
theorem exec_pickBlockedWrite_eq (i : PickId) (input : PickInput) (v : Word) (mem : input ∈ pickInputs i) (s t : State)
    (written : writePick i input (pickWord i v) s = t) (ports : t.ports = s.ports) :
    exec (.pickBlockedWrite i input v) s = .next { t with ports := indexPast i input s.ports } := by
  rw [← ports, ← accessed_pick i input mem, ← written]
  show Host.Outcome.next (writePickAt i input v s) = _
  unfold writePickAt
  rw [pickLocation_eq i input mem]
  cases i <;> rfl

theorem withPick_ports (i : PickId) (p : PickSlot) (s : State) : (s.withPick i p).ports = s.ports := by
  cases i <;> rfl

/-- What a write of GO does to an IDLE slot lies in the lowest bit of the value (R173; log 17). -/
theorem writePick_go_idle (i : PickId) (v : Word) (s : State) (idle : (s.pick i).control = .idle) :
    writePick i .go (pickWord i v) s = if v.toNat % 2 = 1 then startPick i s else s := by
  unfold writePick
  dsimp only
  rw [if_neg (not_not.2 idle), if_pos rfl, pickWord_getLsbD_zero]
  simp only [decide_eq_true_eq]

theorem exec_go_idle (i : PickId) (v : Word) (s t : State) (idle : (s.pick i).control = .idle)
    (written : (if v.toNat % 2 = 1 then startPick i s else s) = t) (ports : t.ports = s.ports) :
    exec (.pickBlockedWrite i .go v) s = .next { t with ports := indexPast i .go s.ports } :=
  exec_pickBlockedWrite_eq i .go v (go_mem_pickInputs i) s t ((writePick_go_idle i v s idle).trans written) ports

/-- The value stored is the one that the statement gives (R171, R180). -/
theorem stored_eq (input : PickInput) (v : Word) (p : PickSlot) : stored input v p = p.store input v := by
  have low (w : Nat) : v.extractLsb' 0 w = v.setWidth w := by ext; simp
  cases input with
  | mask => rw [stored, low]; rfl
  | matchTag => rw [stored, low]; rfl
  | enables => rw [stored, low]; rfl
  | _ => rfl

/-! ### The start of a pick (R173) -/

/-- A slot that GO started, with its results cleared (R173). -/
def PickSlot.started (p : PickSlot) (control : PickControl) : PickSlot :=
  { p with
    found := false, handle := none, feature := .none, index := 0, point := ⟨0, 0⟩
    aborted := false, blocked := false, control := control }

theorem slotTurn_requester (i : PickId) : (slotTurn i).requester = pickRequester i := by cases i <;> rfl

theorem startPick_eq (i : PickId) (s : State) :
    startPick i s = request (pickRequester i) (s.withPick i ((s.pick i).started .waiting)) := rfl

theorem startPick_ports (i : PickId) (s : State) : (startPick i s).ports = s.ports := by
  obtain ⟨a, f, p, q, h⟩ := request_frame (pickRequester i) (s.withPick i ((s.pick i).started .waiting))
  rw [startPick_eq, h]
  cases i <;> rfl

/-- A grant to a slot (R76, R173). -/
theorem grantTo_pick (i : PickId) (p : PickSlot) (s : State) :
    grantTo (pickRequester i) (s.withPick i p) = { s.withPick i { p with control := .searching } with
      arbiter := ⟨some (slotTurn i).requester, s.arbiter.waiting.set (pickRequester i) false, slotTurn i⟩ } := by
  cases i <;> rfl

/-- With the table free and nobody waiting the search begins at once (R76, R173). -/
theorem startPick_alone (i : PickId) (s : State) (free : s.arbiter.holder = none)
    (nobody : ∀ r, s.arbiter.waiting.get r = false) :
    startPick i s = { s.withPick i ((s.pick i).started .searching) with
      arbiter := { s.arbiter with holder := some (slotTurn i).requester, turn := slotTurn i } } := by
  have same : (s.withPick i ((s.pick i).started .waiting)).arbiter = s.arbiter := withPick_arbiter i _ s
  rw [startPick_eq, request_alone _ _ (same ▸ free) (same ▸ nobody), grantTo_pick, Requests.set_false _ _ (nobody _)]
  rfl

/-- While a grant is held the slot waits (R76, R173). -/
theorem startPick_held (i : PickId) (s : State) (held : s.arbiter.holder ≠ none) :
    startPick i s = { s.withPick i ((s.pick i).started .waiting) with
      arbiter := { s.arbiter with waiting := s.arbiter.waiting.set (slotTurn i).requester true } } := by
  obtain ⟨x, holder⟩ := Option.ne_none_iff_exists'.1 held
  rw [startPick_eq]
  cases i with
  | pick0 => exact request_held .pick0 x _ holder
  | pick1 => exact request_held .pick1 x _ holder

/-! ### The search and its completion (R171, R175, R176) -/

theorem PickSlot.radius_eq (p : PickSlot) : p.radius = max 1 (min 65535 (p.aperture.toNat : Int)) :=
  clampInt_eq 1 65535 _ (by decide)

/-- The four class filters by their number, and the slot's own for every other choice (R171, R175). -/
theorem PickSlot.filter_eq (p : PickSlot) (filters : Vector ClassFilter 4) :
    p.filter filters =
      if h : p.choice.toNat < 4 then ((filters[p.choice.toNat]).mask, (filters[p.choice.toNat]).matchTag)
      else (p.mask, p.matchTag) := by
  unfold PickSlot.filter
  generalize p.choice.toNat = n
  match n with
  | 0 => rfl
  | 1 => rfl
  | 2 => rfl
  | 3 => rfl
  | n + 4 =>
    rw [dif_neg (by omega)]
    rfl

/-- The search of the slot that holds the grant completes (R176). -/
theorem pickCompletes_searching (i : PickId) (s : State) (searching : (s.pick i).control = .searching)
    (held : s.arbiter.holder = some (slotTurn i).requester) : pickCompletes s = completePick i s := by
  unfold pickCompletes
  rw [held]
  cases i with
  | pick0 => exact if_pos searching
  | pick1 => exact if_pos searching

/-- With nobody waiting and no build start for an apply, the release after a search frees the table alone (R76, R176). -/
theorem completePick_nobody (i : PickId) (s : State) (noBuild : s.engine = .resetting ∨ s.applyPending = false)
    (nobody : ∀ r, s.arbiter.waiting.get r = false) :
    completePick i s = { raisePickDone i (s.withPick i
        { (s.pick i).withResult (pickSearch (s.pick i) s.active.filters s.table) with
          aborted := false, control := .idle }) with
      arbiter := { s.arbiter with holder := none } } := by
  unfold completePick
  dsimp only
  generalize ({ (s.pick i).withResult (pickSearch (s.pick i) s.active.filters s.table) with
    aborted := false, control := .idle } : PickSlot) = p
  cases i with
  | pick0 => exact releaseGrant_nobody (raisePickDone .pick0 (s.withPick .pick0 p)) noBuild nobody
  | pick1 => exact releaseGrant_nobody (raisePickDone .pick1 (s.withPick .pick1 p)) noBuild nobody

end Sys2Proof.Machine

namespace Sys2Proof.Claims

open Sys2Proof.Machine

/-- Settles O59: a busy slot blocks the write; an IDLE one stores it, or starts its pick by the lowest bit of GO. -/
theorem pickGoStartsASearchOrIsBlocked : Obligations.PickGoStartsASearchOrIsBlocked := by
  intro s i p go started blocked
  refine ⟨fun busy => ?_, fun idle => ⟨fun free nobody => ?_, fun held => ?_, fun v even => ?_, fun v odd => ?_,
    fun input v mem other => ?_⟩⟩
  · have blocks (input : PickInput) (v : Word) (mem : input ∈ pickInputs i) :=
      exec_pickBlockedWrite_eq i input v mem s blocked (writePick_busy i input _ s busy) (withPick_ports i _ s)
    exact ⟨blocks .go 1 (go_mem_pickInputs i), blocks⟩
  · exact exec_go_idle i 1 s _ idle (startPick_alone i s free nobody) (withPick_ports i _ s)
  · exact exec_go_idle i 1 s _ idle (startPick_held i s held) (withPick_ports i _ s)
  · exact exec_go_idle i v s s idle (if_neg (by omega)) rfl
  · have starts (w : Word) (odd : w.toNat % 2 = 1) :=
      exec_go_idle i w s (startPick i s) idle (if_pos odd) (startPick_ports i s)
    exact (starts v odd).trans (starts 1 rfl).symm
  · refine exec_pickBlockedWrite_eq i input v mem s _ ?_ (withPick_ports i _ s)
    rw [stored_eq]
    exact writePick_idle i input _ s idle other

/-- Settles O60: the slot that holds the grant completes its search, and its release frees the table. -/
theorem pickCompletionHandsBackTheBest : Obligations.PickCompletionHandsBackTheBest := by
  intro s i searching held nobody noBuild p q radius filter best answered t
  have search : pickSearch p s.active.filters s.table = best := by
    unfold pickSearch
    rw [p.radius_eq, p.filter_eq]
    refine congrArg bestCandidate (congrArg (candidates _ _ _ _) (funext fun f => ?_))
    cases f <;> simp [featureOn, Feature.enableBit]
  have result : { p.withResult best with aborted := false, control := .idle } = answered := by
    simp only [answered]
    cases best <;> rfl
  show Host.Outcome.next (pickCompletes s) = _
  rw [pickCompletes_searching i s searching held, completePick_nobody i s noBuild nobody, search, result]
  cases i with
  | pick0 =>
    rw [raisePickDone, raiseApp_eq_raised]
    rfl
  | pick1 => rfl

end Sys2Proof.Claims

/-! ## The taking of an apply, whole (R31, R37, R42, R73, R124, R185, R186) -/

namespace Sys2Proof.Machine

open Sys2Proof.Claims

theorem toolHeld_eq (code : Half) : toolHeld code = decide (5 < code.toNat) := by
  unfold toolHeld toolOf
  generalize code.toNat = n
  split
  case h_7 =>
    have above : 5 < n := by
      by_contra low
      interval_cases n <;> simp_all
    rw [decide_eq_true above]
    rfl
  all_goals rfl

theorem applyTool_eq (old new : Settings) (s : State) :
    applyTool old new s =
      { s with tool :=
          if new.tool = old.tool then s.tool
          else { s.tool with context := ToolContext.empty, drag := Drag.empty } } := by
  unfold applyTool
  split <;> rfl

theorem applyRate_eq (old new : Settings) (s : State) :
    applyRate old new s =
      { s with link := { s.link with
          assembler := if new.linkRate = old.linkRate then s.link.assembler else .hunt } } := by
  unfold applyRate
  split <;> rfl

/-- The presence of two devices differs when one of them is ABSENT and the other is not (R36, R37). -/
theorem isPresent_ne_iff (p q : Presence) :
    p.isPresent ≠ q.isPresent ↔ ((p == .absent) != (q == .absent)) = true := by
  cases p <;> cases q <;> simp [Presence.isPresent]

/-- A changed device loses the cursor and its buttons, and a difference of presence is noticed (R37, R42); the rebuild
flag is left to the apply, which sets it. -/
theorem applyDevice_eq (old new : Settings) (s : State) :
    ∃ rebuild, applyDevice old new s =
      { s with
        link := { s.link with
          condition := if decide (new.activeDevice ≠ old.activeDevice) then .none else s.link.condition
          fValid := if decide (new.activeDevice ≠ old.activeDevice) then false else s.link.fValid
          buttons := if decide (new.activeDevice ≠ old.activeDevice) then buttonsReleased else s.link.buttons }
        appNotices := raised s.appNotices
          [(decide (new.activeDevice ≠ old.activeDevice) &&
              (s.link.presence[new.device] == .absent) != (s.link.presence[old.device] == .absent),
            .presenceChange)]
        builder := { s.builder with rebuild := rebuild } } := by
  unfold applyDevice
  by_cases same : new.activeDevice = old.activeDevice
  · refine ⟨s.builder.rebuild, ?_⟩
    simp [same]
  · have lost : (cursorLost s).withLink { (cursorLost s).link with buttons := buttonsReleased } =
        { s with
          link := { s.link with condition := .none, fValid := false, buttons := buttonsReleased }
          builder := { s.builder with
            rebuild := s.builder.rebuild || decide (s.link.condition ≠ .none) } } := by
      rw [cursorLost_eq]
      rfl
    rw [if_neg same, decide_eq_true same, Bool.true_and]
    dsimp only
    rw [lost]
    by_cases differs : s.link.presence[new.device].isPresent ≠ s.link.presence[old.device].isPresent
    · rw [(isPresent_ne_iff _ _).1 differs, if_pos differs, raiseApp_eq_raised]
      exact ⟨_, rfl⟩
    · rw [Bool.eq_false_iff.2 fun h => differs ((isPresent_ne_iff _ _).2 h), if_neg differs, raised_false_cons,
        raised_nil]
      exact ⟨_, rfl⟩

/-- The notices of an apply, and its request for a rebuild (R185 to R187). -/
theorem applyNotices_eq (s : State) (held : Bool) :
    requestRebuild { (if held then raiseApp .settingHeld (raiseApp .settingsApplied s)
      else raiseApp .settingsApplied s) with applyPending := false } =
      { s with
        applyPending := false
        appNotices := raised s.appNotices [(true, .settingsApplied), (held, .settingHeld)]
        builder := { s.builder with rebuild := true } } := by
  rw [← raised_raised]
  cases held
  · simp [raiseApp_eq_raised, -raiseApp_appNotices, requestRebuild, requestRebuildIf]
  · simp [raiseApp_eq_raised, -raiseApp_appNotices, requestRebuild, requestRebuildIf]

/-- The blocks' actions at the taking of an apply, before its notices (R185). -/
def applyBlocks (new : Settings) (s : State) : State :=
  applyDevice s.active new (applyRate s.active new
    (putTable ((applyTool s.active new { s with active := new }).table.trim new.learnCap.toNat)
      (applyTool s.active new { s with active := new })))

theorem takeApply_eq_blocks (s : State) :
    takeApply s =
      let u := applyBlocks (s.staged.clamped s.active.tool) s
      { u with
        applyPending := false
        appNotices := raised u.appNotices [(true, .settingsApplied), (toolHeld u.staged.tool, .settingHeld)]
        builder := { u.builder with rebuild := true } } :=
  applyNotices_eq (applyBlocks (s.staged.clamped s.active.tool) s) _

theorem applyBlocks_eq (new : Settings) (s : State) :
    ∃ rebuild, applyBlocks new s =
      { s with
        active := new
        tool := if new.tool = s.active.tool then s.tool
          else { s.tool with context := ToolContext.empty, drag := Drag.empty }
        table := s.table.trim new.learnCap.toNat
        link := { s.link with
          assembler := if new.linkRate = s.active.linkRate then s.link.assembler else .hunt
          condition := if decide (new.activeDevice ≠ s.active.activeDevice) then .none else s.link.condition
          fValid := if decide (new.activeDevice ≠ s.active.activeDevice) then false else s.link.fValid
          buttons := if decide (new.activeDevice ≠ s.active.activeDevice) then buttonsReleased else s.link.buttons }
        appNotices := raised s.appNotices
          [(decide (new.activeDevice ≠ s.active.activeDevice) &&
              (s.link.presence[new.device] == .absent) != (s.link.presence[s.active.device] == .absent),
            .presenceChange)]
        builder := { s.builder with rebuild := rebuild } } := by
  unfold applyBlocks
  rw [applyTool_eq, applyRate_eq]
  obtain ⟨rebuild, device⟩ := applyDevice_eq s.active new _
  exact ⟨rebuild, device⟩

/-- The taking of an apply is the change that R185 lays down. -/
theorem takeApply_eq_applied (s : State) : takeApply s = applied s := by
  obtain ⟨rebuild, blocks⟩ := applyBlocks_eq (s.staged.clamped s.active.tool) s
  rw [takeApply_eq_blocks, blocks]
  dsimp only
  rw [raised_raised, toolHeld_eq]
  rfl

end Sys2Proof.Machine

/-! ## What settings, view and notices go through (R166, R184 to R189) -/

namespace Sys2Proof.Machine

open Sys2Proof.Claims

/-- Event notices are raised and none is cleared; the bits of the level notices stay out (R188, R189). -/
structure Raises (s t : State) : Prop where
  kept : KeepsRaised s t
  levels : s.NoticeLaw → t.NoticeLaw

theorem Raises.of_eq {s t : State} (h : t.appNotices = s.appNotices) : Raises s t :=
  ⟨.of_eq h, fun law => by unfold State.NoticeLaw; rw [h]; exact law⟩

theorem Raises.trans {s t u : State} (h : Raises s t) (k : Raises t u) : Raises s u :=
  ⟨h.kept.trans k.kept, k.levels ∘ h.levels⟩

/-- No event notice has the bit of a level notice (R188). -/
theorem AppNotice.two_le_bit (n : AppNotice) : 2 ≤ n.bit := by cases n <;> decide

theorem raiseApp_raises (n : AppNotice) (s : State) : Raises s (raiseApp n s) := by
  refine ⟨raiseApp_keepsRaised n s, fun ⟨zero, one⟩ => ?_⟩
  have above := n.two_le_bit
  have other : ∀ i, i < 2 → (oneBit 14 n.bit).getLsbD i = false := fun i low => by
    rw [oneBit_getLsbD _ _ (by omega), decide_eq_false (by omega)]
  refine ⟨?_, ?_⟩
  · show (s.appNotices.raised ||| oneBit 14 n.bit).getLsbD 0 = false
    rw [BitVec.getLsbD_or, zero, other 0 (by decide), Bool.or_false]
  · show (s.appNotices.raised ||| oneBit 14 n.bit).getLsbD 1 = false
    rw [BitVec.getLsbD_or, one, other 1 (by decide), Bool.or_false]

/-- Notices listed as raised are raised one by one. -/
theorem Raises.of_raised {s t : State} (l : List (Bool × AppNotice)) (h : t.appNotices = raised s.appNotices l) :
    Raises s t := by
  induction l generalizing s with
  | nil => exact .of_eq (h.trans (raised_nil _))
  | cons p l ih =>
    obtain ⟨raises, n⟩ := p
    cases raises
    · exact ih (h.trans (raised_false_cons _ n l))
    · refine (raiseApp_raises n s).trans (ih ?_)
      rw [raiseApp_eq_raised]
      exact h.trans (raised_raised _ _ _).symm

/-- Settings and view, apply pending, and the queue of commands. -/
structure Panel where
  staged : Settings
  active : Settings
  applyPending : Bool
  view : View
  pending : List Instr

def State.panel (s : State) : Panel := ⟨s.staged, s.active, s.applyPending, s.builder.view, s.pending⟩

/-- The panel after the taking of an apply (R185). -/
def Panel.applied (p : Panel) : Panel := { p with active := p.staged.clamped p.active.tool, applyPending := false }

/-- What the operations under a command do to settings, view and notices: a pending apply is taken, with
SETTINGS_APPLIED raised, or none (R184, R185); no notice is cleared. -/
structure Operates (s t : State) : Prop where
  raises : Raises s t
  panel : t.panel = s.panel ∨
    s.applyPending = true ∧ t.panel = s.panel.applied ∧ t.appNotices.raised.getLsbD 11 = true

theorem Operates.of_raises {s t : State} (panel : t.panel = s.panel) (raises : Raises s t) : Operates s t :=
  ⟨raises, .inl panel⟩

theorem Operates.of_same {s t : State} (panel : t.panel = s.panel) (notices : t.appNotices = s.appNotices) :
    Operates s t :=
  .of_raises panel (.of_eq notices)

theorem Operates.refl (s : State) : Operates s s := .of_same rfl rfl

/-- No second apply is taken: apply pending is clear after the first. -/
theorem Operates.trans {s t u : State} (h : Operates s t) (k : Operates t u) : Operates s u := by
  refine ⟨h.raises.trans k.raises, ?_⟩
  rcases h.panel with same | ⟨pending, taken, raised⟩
  · rw [← same, ← show t.applyPending = s.applyPending from congrArg Panel.applyPending same]
    exact k.panel
  · rcases k.panel with same | ⟨again, -, -⟩
    · exact .inr ⟨pending, same.trans taken, k.raises.kept 11 raised⟩
    · cases again.symm.trans (show t.applyPending = false from congrArg Panel.applyPending taken)

/-- `Operates.trans` from the last change backwards, for a goal that names the state before that change. -/
theorem Operates.after {s t u : State} (k : Operates t u) (h : Operates s t) : Operates s u := h.trans k

/-! ### The shared operations -/

theorem raiseApp_operates (n : AppNotice) (s : State) : Operates s (raiseApp n s) :=
  .of_raises rfl (raiseApp_raises n s)

theorem takeApply_operates (s : State) (pending : s.applyPending = true) : Operates s (takeApply s) := by
  rw [takeApply_eq_applied]
  refine ⟨.of_raised _ rfl, .inr ⟨pending, rfl, ?_⟩⟩
  unfold applied
  simp only [raised_getLsbD _ _ _ 11 (by decide)]
  simp [AppNotice.bit]

/-- A pending apply is taken where one may be taken (R127, R149). -/
theorem takeApplyIf_operates (s : State) : Operates s (if s.applyPending then takeApply s else s) := by
  split
  · exact takeApply_operates s ‹_›
  · exact .refl s

theorem arbitrate_operates (s : State) : Operates s (arbitrate s) := by
  obtain ⟨a, f, p, q, h⟩ := arbitrate_frame s
  rw [h]
  exact .of_same rfl rfl

theorem request_operates (r : Requester) (s : State) : Operates s (request r s) :=
  (arbitrate_operates _).after (.of_same rfl rfl)

theorem accessed_operates (port : PortId) (loc : Nat) (s : State) : Operates s (accessed port loc s) := by
  obtain ⟨p, h⟩ := accessed_frame port loc s
  rw [h]
  exact .of_same rfl rfl

theorem settleReset_operates (s : State) : Operates s (settleReset s) := by
  unfold settleReset
  split
  · exact (raiseApp_operates _ _).after (.of_same rfl rfl)
  · exact .refl s

theorem emptyCapture_operates (s : State) : Operates s (emptyCapture s) := by
  rw [emptyCapture_eq]
  exact .of_same rfl rfl

theorem withPick_operates (i : PickId) (p : PickSlot) (s : State) : Operates s (s.withPick i p) := by
  cases i <;> exact .of_same rfl rfl

theorem raisePickDone_operates (i : PickId) (s : State) : Operates s (raisePickDone i s) := by
  cases i
  case pick0 => exact raiseApp_operates _ s
  case pick1 => exact .of_same rfl rfl

/-! ### The link receiver (R27 to R45) -/

theorem LinkFrame.panel {s t : State} (h : LinkFrame s t) : t.panel = s.panel := by
  obtain ⟨l, n, r, rfl⟩ := h
  rfl

theorem setHealth_raises (e : BitVec 8) (r : BitVec 7) (s : State) : Raises s (setHealth e r s) := by
  rw [setHealth_eq_withHealth]
  exact .of_raised _ rfl

theorem frameError_raises (s : State) : Raises s (frameError s) :=
  Raises.trans (t := setAssembler .hunt s) (.of_eq rfl) (setHealth_raises _ _ _)

theorem useFrame_raises (time : Nat) (fr : Frame) (s : State) : Raises s (useFrame time fr s) := by
  cases near : fr.proximity
  · rw [useFrame_out time fr s near]
    exact .of_eq rfl
  · rw [useFrame_in time fr s near]
    exact .of_raised _ rfl

theorem goodFrame_raises (time : Nat) (fr : Frame) (s : State) :
    Raises s (goodFrame time fr (setAssembler .hunt s)) := by
  have arrives : Raises s (arrived time fr.device s) :=
    Raises.trans (t := withHealth _ _ { s with link := { s.link with assembler := .hunt } }) (.of_raised _ rfl)
      (.of_raised _ rfl)
  rw [goodFrame_eq]
  split
  · exact arrives.trans (useFrame_raises time fr _)
  · exact arrives

theorem startFrame_raises (time : Nat) (b : Byte) (s : State) : Raises s (startFrame time b s) := by
  unfold startFrame
  split
  · exact .of_eq rfl
  · exact frameError_raises s

theorem takeBodyByte_raises (time : Nat) (held : List Byte) (b : Byte) (s : State) :
    Raises s (takeBodyByte time held b s) := by
  unfold takeBodyByte
  split
  · split
    · exact goodFrame_raises _ _ s
    · exact frameError_raises s
  · split
    · exact frameError_raises s
    · exact .of_eq rfl

theorem takeByte_operates (time : Nat) (sound : Bool) (b : Byte) (s : State) :
    Operates s (takeByte time sound b s) := by
  refine .of_raises (takeByte_frame time sound b s).panel ?_
  unfold takeByte
  split
  · split
    · exact startFrame_raises _ _ s
    · exact .of_eq rfl
  · split
    · exact frameError_raises s
    · split
      · exact (frameError_raises s).trans (startFrame_raises _ _ _)
      · exact takeBodyByte_raises _ _ _ s

theorem gapExpires_operates (time : Nat) (s : State) : Operates s (gapExpires time s) := by
  refine .of_raises (gapExpires_frame time s).panel ?_
  unfold gapExpires
  split
  · exact .of_eq rfl
  · split
    · exact frameError_raises s
    · exact .of_eq rfl

theorem presenceExpires_operates (time : Nat) (device : Fin 8) (s : State) :
    Operates s (presenceExpires time device s) := by
  refine .of_raises (presenceExpires_frame time device s).panel ?_
  unfold presenceExpires
  split
  · exact .of_eq rfl
  · rename_i expiresAt present
    split
    · by_cases active : device = s.active.device
      · rw [expirePresence_active expiresAt device s present active]
        exact .of_raised _ rfl
      · rw [expirePresence_other device s active]
        exact .of_eq rfl
    · exact .of_eq rfl

theorem linkRestart_operates (s : State) : Operates s (linkRestart s) := by
  refine .of_raises (linkRestart_frame s).panel ?_
  rw [linkRestart_eq]
  exact .of_raised _ rfl

/-! ### Builds and releases (R148, R149) -/

theorem beginBuild_operates (bank : Fin 3) (s : State) : Operates s (beginBuild bank s) := by
  have started : Operates s (withBuild bank s) := .of_same rfl rfl
  rw [beginBuild_eq_afterSnapshot]
  refine started.trans ?_
  unfold afterSnapshot
  split
  · exact request_operates _ _
  · exact emptyCapture_operates _
  · exact .refl _

theorem makeBuildStart_operates (s : State) : Operates s (makeBuildStart s) := by
  unfold makeBuildStart
  split
  · exact .refl s
  · exact (takeApplyIf_operates s).trans (beginBuild_operates _ _)

theorem tryBuildStart_operates (s : State) : Operates s (tryBuildStart s) := by
  unfold tryBuildStart
  split_ifs
  · exact .refl s
  · exact .refl s
  · exact makeBuildStart_operates s

theorem releaseGrant_operates (s : State) : Operates s (releaseGrant s) := by
  have freed : Operates s (freeHolder s) := .of_same rfl rfl
  unfold releaseGrant
  dsimp only
  refine (arbitrate_operates _).after ?_
  split
  · exact freed.trans (makeBuildStart_operates _)
  · exact freed

theorem beginBuildResolution_operates (s : State) : Operates s (beginBuildResolution s) := by
  unfold beginBuildResolution
  split
  · exact .of_same rfl rfl
  · exact .refl s

theorem endBuildResolution_operates (r : Resolution) (s : State) : Operates s (endBuildResolution r s) := by
  unfold endBuildResolution
  split
  · exact (releaseGrant_operates _).after (.of_same rfl rfl)
  · exact .refl s

theorem completeBuild_operates (s : State) : Operates s (completeBuild s) := by
  unfold completeBuild
  split
  · exact .of_same rfl rfl
  · exact .refl s

/-! ### Lists and cells (R81 to R96) -/

theorem recordEnding_operates (r : LastList) (s : State) : Operates s (recordEnding r s) := by
  unfold recordEnding
  split
  · exact (raiseApp_operates _ _).after (.of_same rfl rfl)
  · exact .of_same rfl rfl

theorem beginList_operates (l : Submitted) (s : State) : Operates s (beginList l s) := by
  unfold beginList
  split_ifs
  · exact (recordEnding_operates _ s).trans (.of_same rfl rfl)
  · exact (recordEnding_operates _ s).trans (.of_same rfl rfl)
  · exact .of_same rfl rfl

theorem endList_operates (f : InFlight) (status : ListStatus) (s : State) : Operates s (endList f status s) := by
  unfold endList afterEnding
  refine (recordEnding_operates ⟨f.list, status, f.applied, f.cell⟩ s).trans ?_
  dsimp only
  split
  · exact .of_same rfl rfl
  · split
    · exact (recordEnding_operates _ _).after (.of_same rfl rfl)
    · exact (beginList_operates _ _).after (.of_same rfl rfl)

theorem submit_operates (high : Half) (s : State) : Operates s (submit high s) := by
  unfold submit
  split
  · exact raiseApp_operates _ s
  · dsimp only
    split
    · exact .of_same rfl rfl
    · exact (beginList_operates _ _).after (.of_same rfl rfl)

theorem cellBoundary_operates (s : State) : Operates s (cellBoundary s) :=
  (settleReset_operates _).after (.of_same rfl rfl)

theorem boundaryAfterWrite_operates (busError : Bool) (s : State) : Operates s (boundaryAfterWrite busError s) := by
  unfold boundaryAfterWrite
  refine (cellBoundary_operates _).after ?_
  split
  · exact raiseApp_operates _ s
  · exact .refl s

theorem applyWaitingDrag_operates (s : State) : Operates s (applyWaitingDrag s) := by
  unfold applyWaitingDrag
  split
  · split
    · exact .refl s
    · exact .of_same rfl rfl
  · exact .refl s

theorem dispatch_operates (f : InFlight) (c : Cell) (s : State) : Operates s (dispatch f c s) := by
  unfold dispatch
  split_ifs
  · exact (request_operates _ _).after (.of_same rfl rfl)
  all_goals exact .of_same rfl rfl

theorem fetchCompletes_operates (reply : FetchReply) (s : State) : Operates s (fetchCompletes reply s) := by
  unfold fetchCompletes
  split
  · unfold fetchDone
    split
    · exact cellBoundary_operates s
    · split
      · exact endList_operates _ _ s
      · split
        · exact dispatch_operates _ _ s
        · exact endList_operates _ _ s
  · exact .refl s

theorem cellApplies_operates (s : State) : Operates s (cellApplies s) := by
  unfold cellApplies
  split
  · exact (releaseGrant_operates _).after (.of_same rfl rfl)
  · exact .refl s

theorem followLink_operates (f : InFlight) (c : Cell) (s : State) : Operates s (followLink f c s) := by
  unfold followLink
  split_ifs
  · exact endList_operates _ _ s
  · exact endList_operates _ _ s
  · exact .of_same rfl rfl

theorem tearDown_operates (f : InFlight) (c : Cell) (s : State) : Operates s (tearDown f c s) := by
  unfold tearDown
  split_ifs
  · exact endList_operates _ _ s
  · exact endList_operates _ _ s
  · exact .of_same rfl rfl

theorem showWrites_operates (l : List (Word × Word)) (s : State) : Operates s (showWrites l s) := .of_same rfl rfl

theorem writeBackCompletes_operates (handleError controlError : Bool) (s : State) :
    Operates s (writeBackCompletes handleError controlError s) := by
  unfold writeBackCompletes
  split
  · unfold writeBackDone
    split_ifs
    · exact (showWrites_operates _ s).trans (boundaryAfterWrite_operates _ _)
    · exact (showWrites_operates _ s).trans (endList_operates _ _ _)
    · exact (showWrites_operates _ s).trans (tearDown_operates _ _ _)
    · exact (showWrites_operates _ s).trans (followLink_operates _ _ _)
  · exact .refl s

theorem markingCompletes_operates (busError : Bool) (s : State) : Operates s (markingCompletes busError s) := by
  unfold markingCompletes
  split
  · unfold markingDone
    split
    · exact (showWrites_operates _ s).trans (boundaryAfterWrite_operates _ _)
    · exact (showWrites_operates _ s).trans (endList_operates _ _ _)
  · exact .refl s

theorem updateTeardown_operates (s : State) : Operates s (updateTeardown s) := by
  rw [updateTeardown_eq]
  exact .of_same rfl rfl

/-! ### Commits (R126 to R138) -/

theorem endCommit_operates (c : CommitInHand) (s : State) : Operates s (endCommit c s) := by
  have handled : Operates s (applyWaitingDrag (handlePress c (s.withTool { s.tool with commit := none }))) := by
    rw [handlePress_eq]
    exact (applyWaitingDrag_operates _).after (.of_same rfl rfl)
  unfold endCommit
  dsimp only
  refine (releaseGrant_operates _).after ((settleReset_operates _).after (handled.trans ?_))
  split
  · exact .of_same rfl rfl
  · exact .refl _

theorem commitPoint_operates (c : CommitInHand) (s : State) : Operates s (commitPoint c s) := by
  unfold commitPoint
  split
  · exact (endCommit_operates c _).after ((emptyCapture_operates s).trans (.of_same rfl rfl))
  · exact .of_same rfl rfl

theorem commitAccepted_operates (c : CommitInHand) (s : State) : Operates s (commitAccepted c s) := by
  unfold commitAccepted
  split
  · exact (endCommit_operates c _).after (.of_same rfl rfl)
  · exact (endCommit_operates c _).after (.of_same rfl rfl)
  · exact commitPoint_operates c s
  · exact commitPoint_operates c s

theorem beginCommit_operates (c : CommitInHand) (s : State) : Operates s (beginCommit c s) := by
  unfold beginCommit
  refine (takeApplyIf_operates s).trans ?_
  dsimp only
  generalize (if s.applyPending then takeApply s else s) = u
  split
  · exact (raiseApp_operates _ _).trans (endCommit_operates c _)
  · exact commitAccepted_operates c _

theorem tryCommitStart_operates (s : State) : Operates s (tryCommitStart s) := by
  unfold tryCommitStart
  split
  · split
    · exact (request_operates _ _).after (.of_same rfl rfl)
    · exact .refl s
  · exact .refl s

theorem tableGrant_operates (s : State) : Operates s (tableGrant s) := by
  unfold tableGrant
  refine (arbitrate_operates s).trans ?_
  dsimp only
  split
  · unfold beginGrantedCommit
    split
    · exact beginCommit_operates _ _
    · exact .refl _
  · exact beginBuildResolution_operates _
  · unfold beginGrantedCell
    split
    · exact .of_same rfl rfl
    · exact .refl _
  all_goals exact .refl _

theorem finishCommit_operates (c : CommitInHand) (r : Resolution) (s : State) : Operates s (finishCommit c r s) := by
  unfold finishCommit
  split
  · exact (endCommit_operates c _).after (.of_same rfl rfl)
  · exact (endCommit_operates c _).after (.of_same rfl rfl)
  · exact .refl s
  · exact .refl s

theorem resolutionEnds_operates (s : State) : Operates s (resolutionEnds s) := by
  unfold resolutionEnds
  split
  · exact .refl s
  · rename_i inputs _
    generalize resolve inputs s.table = r
    refine Operates.trans (t := endResolution r s) (.of_same rfl rfl) ?_
    dsimp only
    split
    · exact endBuildResolution_operates _ _
    · unfold endCommitResolution
      split
      · exact finishCommit_operates _ _ _
      · exact .refl _
    · exact .refl _

/-! ### Picks (R171 to R177) -/

theorem writePick_operates (i : PickId) (input : PickInput) (v : Word) (s : State) :
    Operates s (writePick i input v s) := by
  unfold writePick startPick
  dsimp only
  split_ifs
  · exact withPick_operates i _ s
  · exact (withPick_operates i _ s).trans (request_operates _ _)
  · exact .refl s
  · exact withPick_operates i _ s

theorem writePickAt_operates (i : PickId) (input : PickInput) (v : Word) (s : State) :
    Operates s (writePickAt i input v s) := by
  unfold writePickAt
  split
  · exact .refl s
  · cases i
    case pick0 => exact (writePick_operates _ _ _ s).trans (accessed_operates _ _ _)
    case pick1 => exact (writePick_operates _ _ _ s).trans (accessed_operates _ _ _)

theorem pickCompletes_operates (s : State) : Operates s (pickCompletes s) := by
  have done : ∀ i, Operates s (completePick i s) := fun i =>
    (releaseGrant_operates _).after ((withPick_operates i _ s).trans (raisePickDone_operates i _))
  unfold pickCompletes
  split
  · split
    · exact done .pick0
    · exact .refl s
  · split
    · exact done .pick1
    · exact .refl s
  all_goals exact .refl s

/-! ### Commands that change what the operations leave: resets, ports, the view's commit -/

/-- A command other than POWER_ON keeps the queue, the view's ranges and the level notices' bits, and changes the active
settings only by taking a pending apply (R166, R184, R185, R189). -/
structure Governs (s t : State) : Prop where
  pending : t.pending = s.pending
  view : s.builder.view.Legal → t.builder.view.Legal
  levels : s.NoticeLaw → t.NoticeLaw
  active : t.active ≠ s.active → s.applyPending = true ∧ t.applyPending = false ∧
    t.active = s.staged.clamped s.active.tool ∧ t.appNotices.raised.getLsbD 11 = true

theorem Operates.governs {s t : State} (h : Operates s t) : Governs s t := by
  obtain ⟨⟨-, levels⟩, panel⟩ := h
  rcases panel with same | ⟨pending, taken, raised⟩
  · refine ⟨congrArg Panel.pending same, fun legal => ?_, levels, absurd (congrArg Panel.active same)⟩
    rw [show t.builder.view = s.builder.view from congrArg Panel.view same]
    exact legal
  · refine ⟨congrArg Panel.pending taken, fun legal => ?_, levels,
      fun _ => ⟨pending, congrArg Panel.applyPending taken, congrArg Panel.active taken, raised⟩⟩
    rw [show t.builder.view = s.builder.view from congrArg Panel.view taken]
    exact legal

/-- A command that leaves the active settings, and the view or its ranges. -/
theorem Governs.of_active {s t : State} (pending : t.pending = s.pending) (active : t.active = s.active)
    (view : s.builder.view.Legal → t.builder.view.Legal) (levels : s.NoticeLaw → t.NoticeLaw) : Governs s t :=
  ⟨pending, view, levels, absurd active⟩

theorem Governs.accessed {s t : State} (h : Governs s t) (port : PortId) (loc : Nat) :
    Governs s (accessed port loc t) := by
  obtain ⟨p, e⟩ := accessed_frame port loc t
  rw [e]
  exact ⟨h.pending, h.view, h.levels, h.active⟩

theorem Operates.accessed {s t : State} (h : Operates s t) (port : PortId) (loc : Nat) :
    Governs s (Machine.accessed port loc t) :=
  h.governs.accessed port loc

/-- NOTICE_RAW only clears (R189). -/
theorem clearNotices_governs (port : PortId) (v : Word) (s : State) : Governs s (clearNotices port v s) := by
  cases port
  case app =>
    refine .of_active rfl rfl id fun ⟨zero, one⟩ => ⟨?_, ?_⟩
    · show (s.appNotices.raised &&& ~~~(v.setWidth 14)).getLsbD 0 = false
      rw [BitVec.getLsbD_and, zero, Bool.false_and]
    · show (s.appNotices.raised &&& ~~~(v.setWidth 14)).getLsbD 1 = false
      rw [BitVec.getLsbD_and, one, Bool.false_and]
  case disp => exact .of_active rfl rfl id id

theorem enableNotices_governs (port : PortId) (v : Word) (s : State) : Governs s (enableNotices port v s) := by
  cases port <;> exact .of_active rfl rfl id id

theorem disableNotices_governs (port : PortId) (v : Word) (s : State) : Governs s (disableNotices port v s) := by
  cases port <;> exact .of_active rfl rfl id id

theorem resetTool_operates (s : State) : Operates s (resetTool s) := by
  unfold resetTool
  split <;> exact .of_same rfl rfl

theorem resetBuilder_operates (s : State) : Operates s (resetBuilder s) := by
  unfold resetBuilder
  dsimp only
  split <;> exact .of_same rfl rfl

theorem resetLink_operates (s : State) : Operates s (resetLink s) := by
  unfold resetLink
  rw [cursorLost_eq]
  exact .of_same rfl rfl

theorem abortPick_operates (i : PickId) (s : State) : Operates s (abortPick i s) := by
  unfold abortPick
  dsimp only
  split
  · exact .refl s
  · refine (raisePickDone_operates i _).after ((withPick_operates i _ _).after ?_)
    exact .of_same rfl rfl

theorem resetUpdate_operates (s : State) : Operates s (resetUpdate s) := by
  rcases resetUpdate_cases s with ⟨-, h⟩ | ⟨-, h⟩
  · rw [h]
    exact .of_same rfl rfl
  · rw [h]
    exact .refl s

/-- ENGINE_RESET clears the event flags before any block raises one (R183). -/
theorem engineReset_governs (s : State) : Governs s (engineReset s) := by
  unfold engineReset
  split
  · unfold resetEngine
    generalize cleared : ({ s with
      appNotices := s.appNotices.clear (BitVec.allOnes 14), engine := .resetting } : State) = u
    have blocks : Operates u (arbitrate (settleReset (resetUpdate (abortPick .pick1 (abortPick .pick0
        (emptyCapture (resetBuilder (resetTool (resetLink u))))))))) :=
      (arbitrate_operates _).after <| (settleReset_operates _).after <| (resetUpdate_operates _).after <|
        (abortPick_operates _ _).after <| (abortPick_operates _ _).after <| (emptyCapture_operates _).after <|
          (resetBuilder_operates _).after <| (resetTool_operates _).after <| resetLink_operates u
    have clear : u.NoticeLaw := by
      rw [← cleared]
      refine ⟨?_, ?_⟩
      · show (s.appNotices.raised &&& ~~~(BitVec.allOnes 14)).getLsbD 0 = false
        simp
      · show (s.appNotices.raised &&& ~~~(BitVec.allOnes 14)).getLsbD 1 = false
        simp
    obtain ⟨pending, view, -, active⟩ := blocks.governs
    subst cleared
    exact ⟨pending, view, fun _ => blocks.raises.levels clear, active⟩
  · exact (Operates.refl s).governs

theorem command_governs (code : Half) (s : State) : Governs s (command code s) := by
  unfold command
  split
  · exact engineReset_governs s
  · exact (linkRestart_operates s).governs
  · exact .of_active rfl rfl id id
  · exact (updateTeardown_operates s).governs
  · exact .of_active rfl rfl id id
  · exact .of_active rfl rfl id id
  · exact (Operates.refl s).governs

/-- A frame start commits a view that is brought into its ranges (R166). -/
theorem commitView_governs (s : State) : Governs s (commitView s) := by
  have committed : Governs s (requestRebuild (s.withBuilder { s.builder with
      view := s.builder.staged.clamped, viewGen := s.builder.viewGen + 1, stagedWritten := false })) :=
    .of_active rfl rfl (fun _ => s.builder.staged.clamped_legal) id
  unfold commitView
  dsimp only
  split
  · exact (Operates.refl s).governs
  · split
    · exact ⟨committed.pending, committed.view, committed.levels, committed.active⟩
    · exact committed

theorem frameStart_governs (s : State) : Governs s (frameStart s) := by
  obtain ⟨pending, view, levels, active⟩ := commitView_governs s
  exact ⟨pending, view, levels, active⟩

theorem readStream_operates (s : State) : Operates s (readStream s) := by
  unfold readStream
  dsimp only
  rw [advanceStream_eq]
  exact .of_same rfl rfl

theorem writeStagedView_governs (field : ViewField) (v : Word) (s : State) : Governs s (writeStagedView field v s) :=
  .of_active rfl rfl id id

theorem staged_governs (st : Settings) (s : State) : Governs s { s with staged := st } := .of_active rfl rfl id id

theorem writeApp_governs (loc : Nat) (v : Word) (s : State) : Governs s (writeApp loc v s) := by
  unfold writeApp
  split_ifs
  · exact command_governs _ s
  · exact clearNotices_governs _ _ s
  · exact enableNotices_governs _ _ s
  · exact disableNotices_governs _ _ s
  · exact .of_active rfl rfl id id
  · exact (submit_operates _ s).governs
  · exact .of_active rfl rfl id id
  · split
    · exact (writePick_operates _ _ _ s).governs
    · exact (Operates.refl s).governs
  · exact staged_governs _ s
  · exact (Operates.refl s).governs

theorem writeDisp_governs (loc : Nat) (v : Word) (s : State) : Governs s (writeDisp loc v s) := by
  unfold writeDisp
  split_ifs
  · exact clearNotices_governs _ _ s
  · exact enableNotices_governs _ _ s
  · exact disableNotices_governs _ _ s
  · exact frameStart_governs s
  · exact .of_active rfl rfl id id
  · split
    · exact writeStagedView_governs _ _ s
    · exact (Operates.refl s).governs
  · split
    · exact (writePick_operates _ _ _ s).governs
    · exact (Operates.refl s).governs
  · exact (Operates.refl s).governs

theorem portWrite_governs (port : PortId) (address : PortAddr) (v : Word) (s : State) :
    Governs s (portWrite port address v s) := by
  cases port <;> cases address
  case app.index => exact .of_active rfl rfl id id
  case disp.index => exact .of_active rfl rfl id id
  case app.data => exact (writeApp_governs _ v s).accessed _ _
  case disp.data => exact (writeDisp_governs _ v s).accessed _ _

theorem portRead_governs (port : PortId) (address : PortAddr) (s : State) : Governs s (portRead port address s) := by
  cases port <;> cases address
  case app.index => exact .of_active rfl rfl id id
  case disp.index => exact .of_active rfl rfl id id
  case app.data => exact .of_active rfl rfl id id
  case disp.data =>
    unfold portRead readDisp
    refine Governs.accessed ?_ _ _
    split
    · exact (readStream_operates s).governs
    · exact .of_active rfl rfl id id

/-- Every command but POWER_ON. -/
theorem exec_governs (c : Instr) (s t : State) (noPowerOn : c ≠ .powerOn) (run : exec c s = .next t) :
    Governs s t := by
  cases c <;> cases run
  case powerOn => exact absurd rfl noPowerOn
  case byteArrival time sound byte => exact (takeByte_operates time sound byte s).governs
  case gapExpiry time => exact (gapExpires_operates time s).governs
  case presenceExpiry time device => exact (presenceExpires_operates time device s).governs
  case engineReset => exact (engineReset_governs s).accessed _ _
  case linkRestart => exact (linkRestart_operates s).accessed _ _
  case apply => exact .of_active rfl rfl id id
  case updateTeardown => exact (updateTeardown_operates s).accessed _ _
  case updateAck => exact .of_active rfl rfl id id
  case commitPop => exact .of_active rfl rfl id id
  case submitHi value => exact (submit_operates value s).accessed _ _
  case fetchCompletion reply => exact (fetchCompletes_operates reply s).governs
  case tableGrant => exact (tableGrant_operates s).governs
  case cellApplication => exact (cellApplies_operates s).governs
  case writeBackCompletion handleError controlError =>
    exact (writeBackCompletes_operates handleError controlError s).governs
  case markingCompletion busError => exact (markingCompletes_operates busError s).governs
  case commitStart => exact (tryCommitStart_operates s).governs
  case resolutionEnd => exact (resolutionEnds_operates s).governs
  case buildStart => exact (tryBuildStart_operates s).governs
  case buildCompletion => exact (completeBuild_operates s).governs
  case frameStart => exact (frameStart_governs s).accessed _ _
  case stream => exact (readStream_operates s).accessed _ _
  case streamRewind => exact .of_active rfl rfl id id
  case stagedViewWrite field value => exact (writeStagedView_governs field value s).accessed _ _
  case pickGo slot => exact (writePickAt_operates slot .go 1 s).governs
  case pickBlockedWrite slot input value => exact (writePickAt_operates slot input value s).governs
  case pickCompletion => exact (pickCompletes_operates s).governs
  case noticeRaw port value => exact (clearNotices_governs port value s).accessed _ _
  case enableSet port value => exact (enableNotices_governs port value s).accessed _ _
  case enableClear port value => exact (disableNotices_governs port value s).accessed _ _
  case dataRead port address => exact portRead_governs port address s
  case registerWrite port address value => exact portWrite_governs port address value s

/-! ### POWER_ON (R190) -/

/-- The reset values are those an apply of them would make active (R186, R190). -/
theorem Settings.reset_legal : Settings.reset.Legal := by
  have filters : Settings.reset.filters = Settings.reset.filters.map ClassFilter.clamped := by
    simp [Settings.reset, ClassFilter.clamped, clampHalf]
  have inRange : Settings.reset = Settings.reset.clamped 0 := by
    show { Settings.reset with filters := Settings.reset.filters } = _
    rw [filters]
    rfl
  rw [inRange]
  exact Settings.clamped_legal _ _ ⟨Nat.zero_le _, Nat.zero_le _⟩

theorem Builder.reset_viewLegal : Builder.reset.view.Legal := by
  have inRange : Builder.reset.view = Builder.reset.staged.clamped := by decide
  rw [inRange]
  exact StagedView.clamped_legal _

theorem State.reset_noticeLaw : State.reset.NoticeLaw := ⟨rfl, rfl⟩

theorem State.reset_toolLaw : State.reset.ToolLaw := (State.toolLaw_iff _).2 ⟨.empty _, .empty⟩

theorem State.reset_logLaw : State.reset.LogLaw := ⟨Nat.zero_le _, fun resolving => (nomatch resolving), trivial⟩

theorem State.reset_linkLaw : State.reset.LinkLaw where
  held _ _ body := nomatch body
  run := ⟨by decide, fun _ => rfl⟩
  valid := ⟨fun inside => (nomatch inside), fun _ => rfl⟩
  device other := absurd rfl other
  queue := ⟨Nat.zero_le _, fun _ mem => (nomatch mem)⟩

end Sys2Proof.Machine

namespace Sys2Proof.Claims

open Sys2Proof.Machine

/-- Settles O9: a command keeps the active settings or takes an apply, which brings them into range as a frame start
brings the view; event notices have other bits than level notices. -/
theorem everyStepKeepsSettingsViewAndNotices : Obligations.EveryStepKeepsSettingsViewAndNotices := by
  intro s t run
  unfold step at run
  split at run
  · cases run
    exact ⟨id, id, id⟩
  · rename_i c rest _
    by_cases powerOn : c = .powerOn
    · subst powerOn
      cases run
      exact ⟨fun _ => Settings.reset_legal, fun _ => Builder.reset_viewLegal, fun _ => State.reset_noticeLaw⟩
    · obtain ⟨-, view, levels, active⟩ := exec_governs c _ t powerOn run
      refine ⟨fun legal => ?_, view, levels⟩
      by_cases same : t.active = s.active
      · rw [same]
        exact legal
      · obtain ⟨-, -, taken, -⟩ := active same
        rw [taken]
        exact Settings.clamped_legal _ _ legal.tool

/-- Settles O14: what a command does to the active settings is the taking of a pending apply. -/
theorem onlyAnApplyChangesActiveSettings : Obligations.OnlyAnApplyChangesActiveSettings :=
  fun c s t noPowerOn run => (exec_governs c s t noPowerOn run).active

/-- Settles O2: each row of the dispatch answers a next state, and keeps the queue. -/
theorem everyCommandCompletes : Obligations.EveryCommandCompletes := by
  intro c s
  have answered : ∃ t, exec c s = .next t := by cases c <;> exact ⟨_, rfl⟩
  obtain ⟨t, run⟩ := answered
  refine ⟨t, run, ?_⟩
  by_cases powerOn : c = .powerOn
  · subst powerOn
    cases run
    rfl
  · exact (exec_governs c s t powerOn run).pending

/-- Settles O4: each law by the reset values it speaks of. -/
theorem powerOnStateMeetsEveryLaw : Obligations.PowerOnStateMeetsEveryLaw :=
  ⟨powerOn_grantLaw State.reset, powerOn_updateLaw State.reset, State.reset_tableLaw, State.reset_toolLaw,
    State.reset_logLaw, State.reset_linkLaw, Settings.reset_legal, Builder.reset_viewLegal, Builder.reset_banksLaw,
    Builder.reset_pictureLaw, Builder.reset_snapshotLaw, State.reset_noticeLaw, State.reset_rangeLaw⟩

/-- Settles O3: POWER_ON answers the state of the reset tables, which is read off field by field. -/
theorem powerOnSetsEveryResetValue : Obligations.PowerOnSetsEveryResetValue := by
  intro s
  refine ⟨_, rfl, ?_⟩
  have raw : appRaw State.reset = 0 := by decide
  have appOff : appLine State.reset = false := by decide
  have dispOff : dispLine State.reset = false := by decide
  have presence : ∀ n : Fin 8, Link.reset.presence[n] = .absent := by decide
  have buttons : ∀ n : Fin 4, Link.reset.buttons[n] = ⟨false, none⟩ := by decide
  have slots : ∀ n : SlotNo, Table.reset.slots[n] = ⟨0, none⟩ := fun n => by simp [Table.reset]
  have bins : ∀ b : BinNo, Table.reset.bins[b] = [] := fun b => Table.reset_bins b.val b.isLt
  have waiting : ∀ r, Arbiter.reset.waiting.get r = false := fun r => by cases r <;> rfl
  have picks : ∀ i, State.reset.pick i =
      ⟨0, 0, 1, 0, 0, 0, 0x0F, .idle, false, none, .none, 0, ⟨0, 0⟩, false, false⟩ :=
    fun i => by cases i <;> rfl
  have filters : ∀ n : Fin 4, Settings.reset.filters[n] = ⟨if n = 0 then 1 else 0, 0, 0⟩ := by decide
  exact ⟨rfl, rfl, rfl, rfl, raw, appOff, dispOff, rfl, rfl, rfl, rfl, presence, rfl, rfl, rfl, rfl, rfl, buttons,
    rfl, slots, rfl, rfl, rfl, bins, rfl, rfl, rfl, rfl, rfl, waiting, rfl, rfl, rfl, rfl, rfl, rfl, rfl, rfl, rfl,
    rfl, rfl, rfl, rfl, rfl, rfl, rfl, rfl, rfl, rfl, rfl, rfl, rfl, picks, rfl, rfl, rfl, rfl, rfl, rfl, rfl, rfl,
    rfl, rfl, rfl, rfl, rfl, rfl, rfl, rfl, rfl, rfl, rfl, rfl, rfl, rfl, rfl, rfl, rfl, rfl, rfl, rfl, rfl, rfl,
    filters, rfl, rfl⟩

end Sys2Proof.Claims

/-! ## Notice units bit by bit, and their lines (R188, R189) -/

namespace Sys2Proof.Machine

open Sys2Proof.Claims

theorem NoticeUnit.clear_getLsbD {w : Nat} (u : NoticeUnit w) (v : Word) (i : Nat) (inWord : i < w) :
    (u.clear (v.setWidth w)).raised.getLsbD i = (u.raised.getLsbD i && !v.getLsbD i) := by
  simp [NoticeUnit.clear, inWord]

theorem NoticeUnit.enable_getLsbD {w : Nat} (u : NoticeUnit w) (v : Word) (i : Nat) (inWord : i < w) :
    (u.enable (v.setWidth w)).enabled.getLsbD i = (u.enabled.getLsbD i || v.getLsbD i) := by
  simp [NoticeUnit.enable, inWord]

theorem NoticeUnit.disable_getLsbD {w : Nat} (u : NoticeUnit w) (v : Word) (i : Nat) (inWord : i < w) :
    (u.disable (v.setWidth w)).enabled.getLsbD i = (u.enabled.getLsbD i && !v.getLsbD i) := by
  simp [NoticeUnit.disable, inWord]

theorem AppNotice.bit_lt (n : AppNotice) : n.bit < 14 := by cases n <;> decide

theorem DispNotice.bit_lt (n : DispNotice) : n.bit < 3 := by cases n <;> decide

/-- Every bit above the level notices is an event notice's (R188). -/
theorem AppNotice.exists_bit (i : Nat) (above : 2 ≤ i) (inWord : i < 14) : ∃ n : AppNotice, n.bit = i := by
  interval_cases i
  exacts [⟨.submitRefused, rfl⟩, ⟨.busError, rfl⟩, ⟨.logFull, rfl⟩, ⟨.commitRefused, rfl⟩, ⟨.buttonOverrun, rfl⟩,
    ⟨.linkWarn, rfl⟩, ⟨.linkState, rfl⟩, ⟨.presenceChange, rfl⟩, ⟨.pick0Done, rfl⟩, ⟨.settingsApplied, rfl⟩,
    ⟨.settingHeld, rfl⟩, ⟨.resetDone, rfl⟩]

theorem DispNotice.exists_bit (i : Nat) (inWord : i < 3) : ∃ n : DispNotice, n.bit = i := by
  interval_cases i
  exacts [⟨.frameReady, rfl⟩, ⟨.pick1Done, rfl⟩, ⟨.viewClamped, rfl⟩]

/-- A word is not 0 when one of its bits is 1. -/
theorem bne_zero_iff_getLsbD {w : Nat} (x : BitVec w) : (x != 0) = true ↔ ∃ i, i < w ∧ x.getLsbD i = true := by
  rw [bne_iff_ne, ne_eq, ← not_iff_not, not_not]
  refine ⟨fun zero => by simp [zero], fun none => BitVec.eq_of_getLsbD_eq fun i inWord => ?_⟩
  have clear : (0 : BitVec w).getLsbD i = false := by simp
  rw [clear]
  exact Bool.eq_false_iff.2 fun bit => none ⟨i, inWord, bit⟩

theorem levelBits_getLsbD (s : State) (i : Nat) (inWord : i < 14) :
    (levelBits s).getLsbD i = (decide (i = 0) && updateDone s || decide (i = 1) && commitReady s) := by
  unfold levelBits
  cases updateDone s <;> cases commitReady s <;> interval_cases i <;> rfl

theorem appMasked_getLsbD (s : State) (i : Nat) (inWord : i < 14) :
    (appMasked s).getLsbD i =
      ((s.appNotices.raised.getLsbD i || (decide (i = 0) && updateDone s || decide (i = 1) && commitReady s)) &&
        s.appNotices.enabled.getLsbD i) := by
  unfold appMasked appRaw
  rw [BitVec.getLsbD_and, BitVec.getLsbD_or, levelBits_getLsbD s i inWord]

theorem updateDone_iff (s : State) : updateDone s = true ↔ 0 < s.update.done.toNat := by
  rw [updateDone, bne_iff_ne, ne_eq, ← BitVec.toNat_inj, Nat.pos_iff_ne_zero]
  rfl

theorem commitReady_iff (s : State) : commitReady s = true ↔ s.tool.log ≠ [] := by
  simp [commitReady]

/-- The application port's line is asserted by a level notice that is on and enabled, or an event notice that is raised
and enabled (R189). -/
theorem appLine_iff (s : State) (law : s.NoticeLaw) :
    appLine s = true ↔
      (s.appNotices.enabled.getLsbD 0 = true ∧ 0 < s.update.done.toNat) ∨
      (s.appNotices.enabled.getLsbD 1 = true ∧ s.tool.log ≠ []) ∨
      ∃ n : AppNotice, s.appNotices.enabled.getLsbD n.bit = true ∧ s.appNotices.raised.getLsbD n.bit = true := by
  obtain ⟨zero, one⟩ := law
  have first := appMasked_getLsbD s 0 (by decide)
  have second := appMasked_getLsbD s 1 (by decide)
  have others : ∀ n : AppNotice, (appMasked s).getLsbD n.bit =
      (s.appNotices.raised.getLsbD n.bit && s.appNotices.enabled.getLsbD n.bit) := fun n => by
    have above := n.two_le_bit
    rw [appMasked_getLsbD s _ n.bit_lt, decide_eq_false (by omega), decide_eq_false (by omega)]
    simp
  simp only [zero, one, Bool.false_or, decide_true, Bool.true_and, Nat.zero_ne_one, Nat.one_ne_zero, decide_false,
    Bool.false_and, Bool.or_false] at first second
  rw [← updateDone_iff, ← commitReady_iff, appLine, bne_zero_iff_getLsbD]
  constructor
  · rintro ⟨i, inWord, bit⟩
    rcases Nat.lt_or_ge i 2 with low | above
    · interval_cases i
      · rw [first, Bool.and_eq_true] at bit
        exact .inl bit.symm
      · rw [second, Bool.and_eq_true] at bit
        exact .inr (.inl bit.symm)
    · obtain ⟨n, rfl⟩ := AppNotice.exists_bit i above inWord
      rw [others, Bool.and_eq_true] at bit
      exact .inr (.inr ⟨n, bit.symm⟩)
  · rintro (on | on | ⟨n, on⟩)
    · exact ⟨0, by decide, by rw [first, Bool.and_eq_true]; exact on.symm⟩
    · exact ⟨1, by decide, by rw [second, Bool.and_eq_true]; exact on.symm⟩
    · exact ⟨n.bit, n.bit_lt, by rw [others, Bool.and_eq_true]; exact on.symm⟩

/-- The display port has event notices alone (R188, R189). -/
theorem dispLine_iff (s : State) :
    dispLine s = true ↔
      ∃ n : DispNotice, s.dispNotices.enabled.getLsbD n.bit = true ∧ s.dispNotices.raised.getLsbD n.bit = true := by
  unfold dispLine dispMasked
  simp only [bne_zero_iff_getLsbD, BitVec.getLsbD_and, Bool.and_eq_true]
  constructor
  · rintro ⟨i, inWord, raised, enabled⟩
    obtain ⟨n, rfl⟩ := DispNotice.exists_bit i inWord
    exact ⟨n, enabled, raised⟩
  · rintro ⟨n, enabled, raised⟩
    exact ⟨n.bit, n.bit_lt, raised, enabled⟩

end Sys2Proof.Machine

namespace Sys2Proof.Claims

open Sys2Proof.Machine

/-- Settles O24: each write acts on the one unit of its port, bit by bit; a masked view holds a notice when one of its
bits is 1. -/
theorem noticeRegistersActBitwise : Obligations.NoticeRegistersActBitwise := by
  refine ⟨by decide, by decide, fun s v => ⟨⟨_, rfl, rfl, rfl, fun n => ?_⟩, ⟨_, rfl, rfl, rfl, fun n => ?_⟩,
    ⟨_, rfl, rfl, rfl, fun n inWord => ?_⟩, ⟨_, rfl, rfl, rfl, fun n inWord => ?_⟩,
    ⟨_, rfl, rfl, rfl, fun n inWord => ?_⟩, ⟨_, rfl, rfl, rfl, fun n inWord => ?_⟩,
    fun law => ⟨appLine_iff s law, dispLine_iff s⟩⟩⟩
  · exact s.appNotices.clear_getLsbD v _ n.bit_lt
  · exact s.dispNotices.clear_getLsbD v _ n.bit_lt
  · exact s.appNotices.enable_getLsbD v n inWord
  · exact s.dispNotices.enable_getLsbD v n inWord
  · exact s.appNotices.disable_getLsbD v n inWord
  · exact s.dispNotices.disable_getLsbD v n inWord

end Sys2Proof.Claims

/-! ## Reads by location (R179 to R181, R194 to R196) -/

namespace Sys2Proof.Machine

open Sys2Proof.Claims

/-! ### The numbers of the codes (R186, R192 to R195) -/

theorem Tool.code_eq_number (t : Tool) : t.code = toolNumber t := by cases t <;> rfl

theorem RecordKind.code_eq_idxOf (k : RecordKind) :
    k.code = [RecordKind.place, .finish, .cancel, .aux, .menuPick].idxOf k := by cases k <;> rfl

theorem MenuId.code_eq_number (w : MenuId) : w.code = windowNumber w := by cases w <;> rfl

theorem LinkState.code_eq_idxOf (l : LinkState) : l.code = [LinkState.tracking, .degraded, .offline].idxOf l := by
  cases l <;> rfl

theorem CursorCondition.code_eq_idxOf (c : CursorCondition) :
    c.code = [CursorCondition.none, .out, .inside].idxOf c := by cases c <;> rfl

theorem Stage.code_eq_number (stage : Option Stage) : (stage.map Stage.code).getD 0 = stageNumber stage := by
  rcases stage with _ | stage
  · rfl
  · cases stage <;> rfl

theorem ListStatus.code_eq_idxOf (l : ListStatus) :
    l.code = [ListStatus.none, .complete, .stoppedUnowned, .badLink, .busError, .tornDown, .discarded].idxOf l := by
  cases l <;> rfl

theorem Requester.code_eq_idxOf (holder : Option Requester) : (holder.map Requester.code).getD 0 =
    [none, some Requester.commit, some .build, some .update, some .pick0, some .pick1].idxOf holder := by
  rcases holder with _ | r
  · rfl
  · cases r <;> rfl

theorem Turn.code_eq_idxOf (t : Turn) : t.code = [Turn.build, .update, .pick0, .pick1].idxOf t := by cases t <;> rfl

theorem BankState.code_eq_idxOf (b : BankState) : b.code = [BankState.free, .building, .ready, .shown].idxOf b := by
  cases b <;> rfl

/-- A handle's form is its slot and, above the slot's ten bits, its tag (R192). -/
theorem handleCode_eq_handleForm (h : Option Handle) : handleCode h = handleForm h := by
  rcases h with _ | h
  · rfl
  · have slot := h.slot.isLt
    have tag := h.tag.isLt
    apply BitVec.eq_of_toNat_eq
    show ((0 : BitVec 1) ++ h.tag ++ BitVec.ofNat 10 h.slot.val).toNat = _
    rw [BitVec.toNat_append, BitVec.toNat_append, BitVec.toNat_ofNat, Nat.mod_eq_of_lt slot,
      ← Nat.shiftLeft_add_eq_or_of_lt (by omega)]
    simp only [handleForm, half16, BitVec.toNat_ofNat, Nat.shiftLeft_eq]
    simp
    omega

/-- A shorter value read as 16 bits. -/
theorem setWidth_eq_half16 {w : Nat} (v : BitVec w) : v.setWidth 16 = half16 v.toNat := by
  apply BitVec.eq_of_toNat_eq
  rw [BitVec.toNat_setWidth, half16, BitVec.toNat_ofNat]

theorem presenceBits_eq (l : Link) : presenceBits l =
    ((List.finRange 8).map fun n => if l.presence[n] = .absent then 0 else 2 ^ n.val).sum := by
  unfold presenceBits
  congr 1
  apply List.map_congr_left
  intro n _
  cases l.presence[n] <;> simp [Presence.isPresent, bitOf]

theorem occupied_eq (t : Table) :
    t.occupied = ((List.finRange 1024).filter fun n => (t.target n).isSome).length := by
  unfold Table.occupied allSlots Table.isFree
  simp

theorem levelBits_setWidth (s : State) :
    (levelBits s).setWidth 16 = half16 (flag (s.update.done != 0) + 2 * flag !s.tool.log.isEmpty) := by
  unfold levelBits updateDone commitReady
  cases s.update.done != 0 <;> cases s.tool.log.isEmpty <;> rfl

/-- The raw view is the event flags with the level notices (R188, R195). -/
theorem appRaw_setWidth (s : State) : (appRaw s).setWidth 16 =
    s.appNotices.raised.setWidth 16 ||| half16 (flag (s.update.done != 0) + 2 * flag !s.tool.log.isEmpty) := by
  rw [appRaw, BitVec.setWidth_or, levelBits_setWidth]

/-- Each location of a list of the window's map reads the value that stands there (R195). -/
def ReadsAll (s : State) (places : List (Nat × Half)) : Prop := ∀ e ∈ places, appWord s e.1 = e.2

theorem updatePlaces_read (s : State) : ReadsAll s (updatePlaces s) := by
  unfold ReadsAll updatePlaces
  simp only [List.forall_mem_cons, List.not_mem_nil, false_implies, implies_true, and_true]
  have stage : (s.update.inFlight.map fun l => l.stage.code) =
      (s.update.inFlight.map InFlight.stage).map Stage.code := by
    rw [Option.map_map]
    rfl
  refine ⟨rfl, appRaw_setWidth s, rfl, ?_, rfl, ?_, rfl, rfl, ?_⟩
  · show (appRaw s &&& s.appNotices.enabled).setWidth 16 = _
    rw [BitVec.setWidth_and, appRaw_setWidth]
  · show half16 (updateStatus s.update) = _
    rw [updateStatus, stage, Stage.code_eq_number]
    rfl
  · show half16 (s.update.record.list.serial.toNat + 256 * s.update.record.status.code) = _
    rw [ListStatus.code_eq_idxOf]

theorem linkPlaces_read (s : State) : ReadsAll s (linkPlaces s) := by
  unfold ReadsAll linkPlaces
  simp only [List.forall_mem_cons, List.not_mem_nil, false_implies, implies_true, and_true]
  refine ⟨?_, ?_, ?_, setWidth_eq_half16 _, setWidth_eq_half16 _, setWidth_eq_half16 _, setWidth_eq_half16 _, rfl, ?_,
    rfl, rfl, rfl, rfl, ?_, handleCode_eq_handleForm _, ?_, ?_, rfl, rfl, rfl⟩
  · show half16 (s.link.errors.toNat + 256 * s.link.state.code + 1024 * bitOf (s.link.assembler != .hunt)) = _
    rw [LinkState.code_eq_idxOf]
    rfl
  · show half16 (s.link.run.toNat + 256 * presenceBits s.link) = _
    rw [presenceBits_eq]
  · show half16 (s.link.condition.code + 16 * s.link.queue.length) = _
    rw [CursorCondition.code_eq_idxOf]
  · show half16 s.table.occupied = _
    rw [occupied_eq]
  · show half16 (arbiterWord s.arbiter) = _
    rw [arbiterWord, Requester.code_eq_idxOf, Turn.code_eq_idxOf]
    rfl
  · show half16 (captureWord s.resolver.capture) = _
    cases s.resolver.capture with
    | none => rfl
    | some ref => exact congrArg (fun n => half16 (n + 16 * ref.index.toNat)) ref.feature.code_eq_number
  · show half16 (s.active.toolInForce.code + 256 * s.tool.context.count.toNat) = _
    rw [Tool.code_eq_number]

/-- The oldest record's locations; all of them read 0 while the log is empty (R143, R194). -/
theorem recordPlaces_read (s : State) : ReadsAll s (recordPlaces s.tool.log) := by
  have word : ∀ n, 0x050 ≤ n → n ≤ 0x05C → appWord s n = recordWord s (n - 0x050) := by
    intro n low high
    interval_cases n <;> rfl
  unfold ReadsAll
  rcases log : s.tool.log with _ | ⟨r, rest⟩
  · have empty : ∀ n, 0x050 ≤ n → n ≤ 0x05C → appWord s n = 0 := fun n low high => by
      rw [word n low high, recordWord, log]
    simp only [recordPlaces, List.map_cons, List.map_nil, List.forall_mem_cons, List.not_mem_nil, false_implies,
      implies_true, and_true]
    refine ⟨?_, ?_, ?_, ?_, ?_, ?_, ?_, ?_, ?_⟩ <;> exact empty _ (by decide) (by decide)
  · have oldest : ∀ n, 0x050 ≤ n → n ≤ 0x05C → appWord s n = r.word (n - 0x050) := fun n low high => by
      rw [word n low high, recordWord, log]
    simp only [recordPlaces, List.forall_mem_cons, List.not_mem_nil, false_implies, implies_true, and_true]
    simp only [oldest, Nat.reduceLeDiff]
    refine ⟨rfl, ?_, ?_, handleCode_eq_handleForm _, handleCode_eq_handleForm _, setWidth_eq_half16 _,
      setWidth_eq_half16 _, ?_, rfl⟩
    · show half16 (r.kind.code + 16 * r.tool.code + 256 * bitOf r.completes + 512 * bitOf r.learnSkipped) = _
      rw [RecordKind.code_eq_idxOf, Tool.code_eq_number]
      rfl
    · show half16 (r.count.toNat + 256 * r.feature.code + 4096 * r.index.toNat) = _
      rw [Feature.code_eq_number]
    · show half16 (menuWord r.menu) = _
      rcases r.menu with _ | m
      · rfl
      · exact congrArg (fun n => half16 (n + 2 * bitOf m.aux + 256 * m.cell.toNat)) m.window.code_eq_number

theorem pick0Places_read (s : State) : ReadsAll s
    [(0x064, s.pick0.aperture.extractLsb' 0 16), (0x065, s.pick0.choice.extractLsb' 0 16), (0x066, s.pick0.mask),
      (0x067, s.pick0.matchTag), (0x068, half16 s.pick0.enables.toNat), (0x069, half16 (goForm s.pick0)),
      (0x06A, half16 (resultForm s.pick0)), (0x06B, handleForm s.pick0.handle)] := by
  unfold ReadsAll
  simp only [List.forall_mem_cons, List.not_mem_nil, false_implies, implies_true, and_true]
  refine ⟨rfl, rfl, rfl, rfl, setWidth_eq_half16 _, rfl, ?_, handleCode_eq_handleForm _⟩
  show half16 s.pick0.resultWord = _
  rw [PickSlot.resultWord, Feature.code_eq_number]
  rfl

/-! ### The settings by location (R184, R186) -/

theorem settingPlaces_read (st : Settings) : ∀ e ∈ settingPlaces st, st.read e.1 = e.2 := by
  unfold settingPlaces filterPlaces windowPlaces
  simp only [List.cons_append, List.nil_append, List.forall_mem_cons, List.not_mem_nil, false_implies, implies_true,
    and_true]
  and_intros <;> rfl

/-- A place that the map does not give reads 0 (R179). -/
theorem Settings.read_other (st : Settings) (n : Nat) (other : n ∉ settingNumbers) : st.read n = 0 := by
  unfold Settings.read
  split
  case h_55 => rfl
  all_goals exact absurd other (by decide)

theorem appWord_staged (s : State) (n : Nat) (inBlock : n ≤ 0x3E) : appWord s (0x080 + n) = s.staged.read n := by
  interval_cases n <;> rfl

theorem appWord_active (s : State) (n : Nat) (inBlock : n ≤ 0x3E) : appWord s (0x180 + n) = s.active.read n := by
  interval_cases n <;> rfl

theorem placedAt_read (s : State) (first : Nat) (st : Settings)
    (block : ∀ n, n ≤ 0x3E → appWord s (first + n) = st.read n) : ReadsAll s (placedAt first (settingPlaces st)) := by
  intro e mem
  obtain ⟨g, place, rfl⟩ := List.mem_map.1 mem
  have number : g.1 ∈ settingNumbers :=
    settingPlaces_numbers st ▸ List.mem_map_of_mem (List.mem_append_left _ place)
  exact (block g.1 (settingNumbers_le _ number)).trans (settingPlaces_read st g place)

/-- The map of the application window agrees with what its locations read (R194, R195). -/
theorem appPlaces_read (s : State) : ReadsAll s (appPlaces s) := by
  unfold ReadsAll appPlaces
  simp only [List.forall_mem_append]
  exact ⟨⟨⟨⟨⟨updatePlaces_read s, linkPlaces_read s⟩, recordPlaces_read s⟩, pick0Places_read s⟩,
    placedAt_read s _ _ (appWord_staged s)⟩, placedAt_read s _ _ (appWord_active s)⟩

/-- The places of the settings that are no half of a pair (R186). -/
def plainSettings : List Nat := List.range 0x18 ++ List.range' 0x20 12 ++ List.range' 0x30 7 ++ List.range' 0x38 7

/-- The locations of the application window that read a value of their own (R194, R195). -/
def appLocations : List Nat :=
  [0x000, 0x001, 0x002, 0x005, 0x010, 0x012, 0x013, 0x014, 0x019, 0x020, 0x021, 0x022, 0x023, 0x024, 0x025, 0x026,
    0x027, 0x030, 0x031, 0x032, 0x033, 0x038, 0x039, 0x03A, 0x03B, 0x040, 0x049, 0x04E, 0x04F, 0x050, 0x051, 0x052,
    0x057, 0x058, 0x059, 0x05A, 0x05B, 0x05C, 0x064, 0x065, 0x066, 0x067, 0x068, 0x069, 0x06A, 0x06B]
  ++ plainSettings.map (0x080 + ·) ++ plainSettings.map (0x180 + ·)

theorem appPlaces_locations (s : State) : (appPlaces s).map Prod.fst = appLocations := by
  unfold appPlaces
  cases s.tool.log <;> rfl

/-! ### The pairs (R180) -/

/-- The low locations of the pairs (R194, R195). -/
def pairLows : List Nat :=
  [0x015, 0x017, 0x01A, 0x01C, 0x01E, 0x034, 0x036, 0x041, 0x043, 0x045, 0x047, 0x04A, 0x04C, 0x053, 0x055, 0x060,
    0x062, 0x06C, 0x06E, 0x098, 0x09A, 0x198, 0x19A]

theorem appPairs_lows (s : State) : (appPairs s).map Prod.fst = pairLows := rfl

theorem appPairs_pair (s : State) : ∀ e ∈ appPairs s, appPair s e.1 = some e.2 := by
  have flight : ∀ f : InFlight → Word, inFlightWord s f = (s.update.inFlight.map f).getD 0 := fun f => by
    unfold inFlightWord
    cases s.update.inFlight <;> rfl
  have oldest : recordPoint s = s.tool.log.head?.bind CommitRecord.s := by
    unfold recordPoint
    cases s.tool.log <;> rfl
  unfold appPairs
  simp only [List.forall_mem_cons, List.not_mem_nil, false_implies, implies_true, and_true, ← flight, ← oldest]
  and_intros <;> rfl

theorem appPair_of_not_mem (s : State) (n : Nat) (other : n ∉ pairLows) : appPair s n = none := by
  unfold appPair
  split
  case h_24 => rfl
  all_goals exact absurd other (by decide)

theorem appPair_of_mem (s : State) (n : Nat) (pair : n ∈ pairLows) : ∃ w, appPair s n = some w := by
  rw [← appPairs_lows s] at pair
  obtain ⟨e, mem, rfl⟩ := List.mem_map.1 pair
  exact ⟨e.2, appPairs_pair s e mem⟩

theorem pairLows_bounds : ∀ n ∈ pairLows, n + 1 ∉ pairLows ∧ 0x015 ≤ n ∧ n ≤ 0x19A ∧
    (n ≠ 0x11 ∧ n ≠ 0x5D ∧ n + 1 ≠ 0x11 ∧ n + 1 ≠ 0x5D) := by decide

/-- A location is no half of a pair. -/
def IsPlain (n : Nat) : Prop := n ∉ pairLows ∧ (n = 0 ∨ n - 1 ∉ pairLows)

theorem appLocations_plain : ∀ n ∈ appLocations, IsPlain n := by
  unfold IsPlain
  decide +kernel

/-- A location that is no half of a pair leaves the latch (R180). -/
theorem appRead_plain (s : State) (n : Nat) (plain : IsPlain n) : appRead s n = (appWord s n, s.ports.latch) := by
  obtain ⟨noLow, noHigh⟩ := plain
  have above : (if n = 0 then none else appPair s (n - 1)) = none := by
    rcases noHigh with zero | noHigh
    · rw [if_pos zero]
    · rw [appPair_of_not_mem s _ noHigh, ite_self]
  rw [appRead, appPair_of_not_mem s n noLow]
  simp only [above]

theorem appRead_low (s : State) (n : Nat) (w : Word) (pair : appPair s n = some w) :
    appRead s n = (lowHalf w, some ⟨BitVec.ofNat 16 (n + 1), highHalf w⟩) := by
  rw [appRead, pair]

theorem appRead_high (s : State) (n : Nat) (w : Word) (mem : n ∈ pairLows) (pair : appPair s n = some w) :
    appRead s (n + 1) = (latchedHigh s.ports.latch (BitVec.ofNat 16 (n + 1)) (highHalf w),
      latchAfterHigh s.ports.latch (BitVec.ofNat 16 (n + 1))) := by
  rw [appRead, appPair_of_not_mem s _ (pairLows_bounds n mem).1]
  simp only [Nat.add_one_ne_zero, if_false, Nat.add_sub_cancel, pair]

/-- A location of a block of settings that is neither in the map nor a half of a pair is given no setting. -/
theorem settingNumbers_mapped : ∀ n ∈ settingNumbers, (0x080 + n ∈ appLocations ∨ ¬ IsPlain (0x080 + n)) ∧
    (0x180 + n ∈ appLocations ∨ ¬ IsPlain (0x180 + n)) := by
  unfold IsPlain
  decide +kernel

/-- Every record location is in the map or a half of a pair. -/
theorem recordLocations_mapped : ∀ n, n < 0x0D → 0x050 + n ∈ appLocations ∨ ¬ IsPlain (0x050 + n) := by
  unfold IsPlain
  decide

/-- A location outside the window's map reads 0 (R179, R181). -/
theorem appWord_unmapped (s : State) (n : Nat) (unmapped : n ∉ appLocations) (plain : IsPlain n) : appWord s n = 0 := by
  unfold appWord
  split
  case h_38 =>
    split_ifs with record staged active
    · obtain ⟨k, rfl⟩ := Nat.exists_eq_add_of_le record.1
      exact ((recordLocations_mapped k (by omega)).elim unmapped (absurd plain)).elim
    · obtain ⟨k, rfl⟩ := Nat.exists_eq_add_of_le staged.1
      rw [Nat.add_sub_cancel_left]
      exact Settings.read_other _ _ fun mem => (settingNumbers_mapped k mem).1.elim unmapped (absurd plain)
    · obtain ⟨k, rfl⟩ := Nat.exists_eq_add_of_le active.1
      rw [Nat.add_sub_cancel_left]
      exact Settings.read_other _ _ fun mem => (settingNumbers_mapped k mem).2.elim unmapped (absurd plain)
    · rfl
  all_goals exact absurd unmapped (by decide)

/-! ### A read at DATA (R179) -/

theorem exec_readAppData (s : State) : exec (.dataRead .app .data) s = .next (readApp s.ports.appIndex.toNat s) := rfl

theorem exec_readApp_advances (s : State) (v : Half) (latch : Option ReadLatch)
    (read : appRead s s.ports.appIndex.toNat = (v, latch)) (passes : holds .app s.ports.appIndex.toNat = false) :
    exec (.dataRead .app .data) s = .next { s with ports := { s.ports with
      appIndex := s.ports.appIndex + 1, appData := v, latch := latch } } := by
  rw [exec_readAppData, readApp, accessed_app_advances s _ passes, read]
  rfl

/-- A read at DATA of a location that leaves the latch: INDEX advances unless it is a hold location. -/
theorem exec_readApp (s : State) (v : Half) (read : appRead s s.ports.appIndex.toNat = (v, s.ports.latch)) :
    exec (.dataRead .app .data) s = .next { s with ports := { s.ports with
      appIndex := if s.ports.appIndex.toNat = 0 ∨ s.ports.appIndex.toNat = 0x11 ∨ s.ports.appIndex.toNat = 0x5D then
        s.ports.appIndex else s.ports.appIndex + 1
      appData := v } } := by
  split_ifs with held
  · have stays : indexAfter .app s.ports.appIndex.toNat = s.ports.appIndex := by
      have on : holds .app s.ports.appIndex.toNat = true := by
        rcases held with zero | submit | pop
        · rw [zero]; rfl
        · rw [submit]; rfl
        · rw [pop]; rfl
      rw [indexAfter, if_pos on, BitVec.ofNat_toNat, BitVec.setWidth_eq]
    rw [exec_readAppData, readApp, accessed, stays, read]
    rfl
  · push Not at held
    exact exec_readApp_advances s v _ read (holds_app _ held)

/-! ### The display window (R164, R167, R196) -/

/-- The SHOWN bank's build number stands in its first entry (R164). -/
theorem shownBuild_toNat (b : Builder) : (shownBuild b).toNat = shownNumber b := by
  unfold shownBuild shownEntries shownNumber
  generalize List.find? (fun bank : Bank => bank.state == BankState.shown) b.banks.toList = found
  rcases found with _ | ⟨_, entries⟩
  · rfl
  · rcases entries with _ | ⟨e, rest⟩
    · rfl
    · cases e <;> rfl

theorem dispPlaces_read (s : State) : ∀ e ∈ dispPlaces s, dispWord s e.1 = e.2 := by
  unfold dispPlaces
  simp only [List.forall_mem_cons, List.not_mem_nil, false_implies, implies_true, and_true]
  refine ⟨rfl, rfl, rfl, rfl, ?_, rfl, rfl, rfl, rfl, rfl, rfl, rfl, rfl, rfl, rfl, rfl, rfl, rfl, rfl, rfl, rfl, rfl,
    rfl, rfl, rfl, rfl, rfl, rfl, ?_, ?_, rfl, rfl⟩
  · rw [← shownBuild_toNat]
    simp only [← BankState.code_eq_idxOf]
    rfl
  · rw [resultForm, ← Feature.code_eq_number]
    rfl
  · rw [← handleCode_eq_handleForm]
    rfl

/-- A location outside the display window's map reads 0 (R179). -/
theorem dispWord_unmapped (s : State) (n : Nat) (unmapped : ∀ e ∈ dispPlaces s, n ≠ e.1) : dispWord s n = 0 := by
  have locations : ∀ m ∈ (dispPlaces s).map Prod.fst, n ≠ m := List.forall_mem_map.2 unmapped
  unfold dispWord
  split
  case h_33 => rfl
  all_goals exact absurd rfl (locations _ (by simp [dispPlaces]))

theorem exec_readDispData (s : State) :
    exec (.dataRead .disp .data) s = .next (readDisp s.ports.dispIndex.toNat s) := rfl

/-- A read at DATA of the display port besides STREAM: INDEX advances unless it is the other hold location. -/
theorem exec_readDisp (s : State) (noStream : s.ports.dispIndex.toNat ≠ 9) :
    exec (.dataRead .disp .data) s = .next { s with ports := { s.ports with
      dispIndex := if s.ports.dispIndex.toNat = 8 then s.ports.dispIndex else s.ports.dispIndex + 1
      dispData := dispWord s s.ports.dispIndex.toNat } } := by
  rw [exec_readDispData, readDisp, if_neg (show s.ports.dispIndex.toNat ≠ locStream from noStream)]
  split_ifs with held
  · have stays : indexAfter .disp s.ports.dispIndex.toNat = s.ports.dispIndex := by
      have on : holds .disp s.ports.dispIndex.toNat = true := by rw [held]; rfl
      rw [indexAfter, if_pos on, BitVec.ofNat_toNat, BitVec.setWidth_eq]
    rw [accessed, stays]
    rfl
  · rw [accessed_disp_advances s _ (holds_disp _ ⟨held, noStream⟩)]
    rfl

end Sys2Proof.Machine

namespace Sys2Proof.Claims

open Sys2Proof.Machine

/-- Settles O25: a location of the map is no half of a pair, and its value is the one the map gives; the halves of a
pair differ by one location, so that the latch loaded by the low half's read stands for the high half's. -/
theorem readsReturnTheLocation : Obligations.ReadsReturnTheLocation := by
  intro s
  refine ⟨rfl, rfl, fun e mem at_ => ?_, fun noPlace noPair => ?_, fun e mem at_ stale => ?_, fun e mem at_ => ?_,
    fun e mem at_ => ?_, fun noPlace noStream => ?_, fun at_ => ?_⟩
  · have location : e.1 ∈ appLocations := appPlaces_locations s ▸ List.mem_map_of_mem mem
    apply exec_readApp
    rw [at_, appRead_plain s _ (appLocations_plain _ location), appPlaces_read s e mem]
  · have unmapped : s.ports.appIndex.toNat ∉ appLocations := fun location => by
      rw [← appPlaces_locations s] at location
      obtain ⟨e, mem, at_⟩ := List.mem_map.1 location
      exact noPlace e mem at_.symm
    have plain : IsPlain s.ports.appIndex.toNat := by
      rw [IsPlain, ← appPairs_lows s]
      refine ⟨fun low => ?_, or_iff_not_imp_left.2 fun nonzero high => ?_⟩
      · obtain ⟨e, mem, at_⟩ := List.mem_map.1 low
        exact (noPair e mem).1 at_.symm
      · obtain ⟨e, mem, at_⟩ := List.mem_map.1 high
        exact (noPair e mem).2 (by omega)
    apply exec_readApp
    rw [appRead_plain s _ plain, appWord_unmapped s _ unmapped plain]
  · have low : e.1 ∈ pairLows := appPairs_lows s ▸ List.mem_map_of_mem mem
    have location : BitVec.ofNat 16 (e.1 + 1) = s.ports.appIndex := by
      rw [← at_, BitVec.ofNat_toNat, BitVec.setWidth_eq]
    apply exec_readApp
    rw [at_, appRead_high s _ _ low (appPairs_pair s e mem), location]
    rcases latch : s.ports.latch with _ | l
    · rfl
    · rw [latchedHigh, latchAfterHigh, if_neg (stale l latch), if_neg (stale l latch)]
      rfl
  · have low : e.1 ∈ pairLows := appPairs_lows s ▸ List.mem_map_of_mem mem
    obtain ⟨-, above, below, offSubmit, offPop, offSubmit', offPop'⟩ := pairLows_bounds _ low
    have passes : holds .app s.ports.appIndex.toNat = false := holds_app _ (by omega)
    have read := appRead_low s _ _ (appPairs_pair s e mem)
    rw [← at_, ofNat_toNat_succ] at read
    refine ⟨_, exec_readApp_advances s _ _ read passes, rfl, fun later same => ?_⟩
    have index : later.ports.appIndex.toNat = e.1 + 1 := by
      rw [same]
      show (s.ports.appIndex + 1).toNat = _
      rw [BitVec.toNat_add, at_]
      exact Nat.mod_eq_of_lt (show e.1 + 1 < 65536 by omega)
    have location : BitVec.ofNat 16 (e.1 + 1) = s.ports.appIndex + 1 := by rw [← at_, ofNat_toNat_succ]
    have next : later.ports.appIndex + 1 = s.ports.appIndex + 2 := by
      rw [same]
      exact BitVec.add_assoc _ 1 1
    obtain ⟨w, pair⟩ := appPair_of_mem later e.1 low
    have high : appRead later later.ports.appIndex.toNat = (highHalf e.2, none) := by
      rw [index, appRead_high later _ w low pair, location, same, latchedHigh, latchAfterHigh, if_pos rfl, if_pos rfl]
    rw [exec_readApp_advances later _ _ high (holds_app _ (by omega)), next]
    rfl
  · have noStream : s.ports.dispIndex.toNat ≠ 9 := fun stream => by
      have nowhere : 9 ∉ (dispPlaces s).map Prod.fst := by simp [dispPlaces]
      exact nowhere (stream ▸ at_ ▸ List.mem_map_of_mem mem)
    rw [exec_readDisp s noStream, at_, dispPlaces_read s e mem]
  · rw [exec_readDisp s noStream, dispWord_unmapped s _ noPlace]
  · rw [exec_readDispData, at_]
    rfl

end Sys2Proof.Claims

/-! ## The taking of an apply (R73, R149, R185, R186) -/

namespace Sys2Proof.Machine

open Sys2Proof.Claims

/-! ### Each value brought into its range (R186) -/

/-- A setting with a plain range goes to the nearest value of it. -/
theorem clampHalf_eq_atTaking (active : Half) (place lo hi : Nat) (v : Half)
    (range : rangeAt place = (lo, hi) := by decide) (ordered : lo ≤ hi := by decide)
    (plain : place ≠ 0x09 ∧ place ≠ 0x0C ∧ place ≠ 0x13 := by decide) :
    clampHalf lo hi v = atTaking active place v := by
  obtain ⟨noTool, noEnables, noChords⟩ := plain
  rw [atTaking, if_neg noTool, if_neg noEnables, if_neg noChords, clampHalf, range]
  split_ifs with below above
  · rw [Nat.max_eq_left (by omega)]
  · rw [Nat.min_eq_left (by omega), Nat.max_eq_right ordered]
  · rw [Nat.min_eq_right (by omega), Nat.max_eq_right (by omega), BitVec.ofNat_toNat, BitVec.setWidth_eq]

/-- A setting whose range is all of 16 bits is copied as written. -/
theorem eq_atTaking_of_full (active : Half) (place : Nat) (v : Half)
    (full : rangeAt place = (0, 65535) := by decide)
    (plain : place ≠ 0x09 ∧ place ≠ 0x0C ∧ place ≠ 0x13 := by decide) : v = atTaking active place v := by
  have small := v.isLt
  rw [← clampHalf_eq_atTaking active place 0 65535 v full (by decide) plain, clampHalf, if_neg (Nat.not_lt_zero _),
    if_neg (by omega)]

theorem tool_eq_atTaking (active v : Half) : (if toolHeld v then active else v) = atTaking active 0x09 v := by
  rw [toolHeld_eq]
  show _ = if v.toNat ≤ 5 then v else active
  by_cases held : 5 < v.toNat
  · rw [if_pos (decide_eq_true held), if_neg (by omega)]
  · rw [if_neg (by simpa using held), if_pos (by omega)]

theorem enables_eq_atTaking (active v : Half) : v &&& 0x7F = atTaking active 0x0C v := by
  show _ = BitVec.ofNat 16 (v.toNat % 128)
  apply BitVec.eq_of_toNat_eq
  have low := Nat.and_two_pow_sub_one_eq_mod v.toNat 7
  rw [BitVec.toNat_and, BitVec.toNat_ofNat]
  show v.toNat &&& 127 = _
  rw [low]
  omega

/-- A list of settings with each of them brought into its range (R186). -/
def takenAt (active : Half) (places : List (Nat × Half)) : List (Nat × Half) :=
  places.map fun e => (e.1, atTaking active e.1 e.2)

theorem takenAt_append (active : Half) (l m : List (Nat × Half)) :
    takenAt active (l ++ m) = takenAt active l ++ takenAt active m := List.map_append

theorem filterPlaces_clamped (active : Half) (f : ClassFilter) (first : Nat)
    (filter : first ∈ [0x20, 0x23, 0x26, 0x29]) :
    filterPlaces first f.clamped = takenAt active (filterPlaces first f) := by
  revert first
  simp only [List.forall_mem_cons, List.not_mem_nil, false_implies, implies_true, and_true, filterPlaces, takenAt,
    ClassFilter.clamped, List.map_cons, List.map_nil, List.cons.injEq, Prod.mk.injEq, true_and]
  refine ⟨⟨?_, ?_, ?_⟩, ⟨?_, ?_, ?_⟩, ⟨?_, ?_, ?_⟩, ⟨?_, ?_, ?_⟩⟩
  case refine_1 | refine_4 | refine_7 | refine_10 => exact clampHalf_eq_atTaking active _ _ _ _
  all_goals exact eq_atTaking_of_full active _ _

theorem windowPlaces_clamped (active : Half) (w : MenuWindow) (first : Nat) (window : first ∈ [0x30, 0x38]) :
    windowPlaces first w.clamped = takenAt active (windowPlaces first w) := by
  revert first
  simp only [List.forall_mem_cons, List.not_mem_nil, false_implies, implies_true, and_true, windowPlaces, takenAt,
    MenuWindow.clamped, List.map_cons, List.map_nil, List.cons.injEq, Prod.mk.injEq, true_and]
  and_intros <;> exact clampHalf_eq_atTaking active _ _ _ _

/-- The settings that are no half of a pair, each brought into its range (R186). -/
theorem settingPlaces_clamped (st : Settings) (active : Half) :
    settingPlaces (st.clamped active) = takenAt active (settingPlaces st) := by
  have filter : ∀ i : Fin 4, (st.clamped active).filters[i] = (st.filters[i]).clamped := fun i =>
    Vector.getElem_map _ i.isLt
  unfold settingPlaces
  rw [takenAt_append, takenAt_append, takenAt_append, takenAt_append, takenAt_append, takenAt_append]
  rw [← windowPlaces_clamped active _ 0x30 (by decide), ← windowPlaces_clamped active _ 0x38 (by decide),
    ← filterPlaces_clamped active _ 0x20 (by decide), ← filterPlaces_clamped active _ 0x23 (by decide),
    ← filterPlaces_clamped active _ 0x26 (by decide), ← filterPlaces_clamped active _ 0x29 (by decide),
    show (st.clamped active).filters[0] = (st.filters[0]).clamped from filter 0,
    show (st.clamped active).filters[1] = (st.filters[1]).clamped from filter 1,
    show (st.clamped active).filters[2] = (st.filters[2]).clamped from filter 2,
    show (st.clamped active).filters[3] = (st.filters[3]).clamped from filter 3]
  congr 6
  simp only [takenAt, Settings.clamped, List.map_cons, List.map_nil, List.cons.injEq, Prod.mk.injEq, true_and, and_true]
  refine ⟨?_, ?_, ?_, ?_, ?_, ?_, ?_, ?_, ?_, tool_eq_atTaking active _, ?_, ?_, enables_eq_atTaking active _, ?_, ?_,
    ?_, ?_, ?_, ?_, rfl, ?_, eq_atTaking_of_full active _ _, eq_atTaking_of_full active _ _,
    eq_atTaking_of_full active _ _⟩
  all_goals exact clampHalf_eq_atTaking active _ _ _ _

/-- The active grid origin is the staged one, saturated (R6, R186). -/
theorem signedWord_sat_toInt (v : Int) : (signedWord (sat v)).toInt = max (-8388608) (min 8388607 v) := by
  have bounds := (inWorld_iff _).1 (sat_inWorld v)
  rw [signedWord, BitVec.toInt_ofInt, Int.bmod_eq_of_le (by omega) (by omega), sat_eq]

/-! ### A release with an apply pending, and the same release with none (R76, R149) -/

/-- The state with an apply pending or not, and with requests waiting. -/
def State.requesting (s : State) (apply : Bool) (w : Requests) : State :=
  { s with applyPending := apply, arbiter := { s.arbiter with waiting := w } }

/-- A command ends in a release of the grant, or leaves the table held, whatever waits for that release. -/
def EndsInRelease (f : State → State) (s : State) : Prop :=
  (∃ u : State, ∀ apply w, f (s.requesting apply w) = releaseGrant (u.requesting apply w)) ∨
    ∀ apply w, (f (s.requesting apply w)).arbiter.holder ≠ none

/-- With no apply pending and nobody waiting a release frees the table alone. -/
theorem releaseGrant_requesting_quiet (u : State) :
    releaseGrant (u.requesting false nobody) = freeHolder (u.requesting false nobody) :=
  releaseGrant_quiet _ rfl fun r => by cases r <;> rfl

/-- A release with an apply pending makes the build start that waits for it, then the next grant (R149). -/
theorem releaseGrant_requesting_apply (u : State) (w : Requests) :
    releaseGrant (u.requesting true w) = arbitrate (tryBuildStart (freeHolder (u.requesting true w))) := by
  unfold releaseGrant tryBuildStart
  dsimp only
  rw [show (freeHolder (u.requesting true w)).applyPending = true from rfl, Bool.and_true,
    if_neg (show ¬ (true = true ∧ (freeHolder (u.requesting true w)).arbiter.holder ≠ none) from
      fun held => held.2 rfl)]
  cases buildDue (freeHolder (u.requesting true w)) <;> rfl

/-- The release that a held apply waits for is the same release without it, then the build start, then the next grant
(R76, R149). -/
theorem EndsInRelease.apply {f : State → State} {s : State} (ends : EndsInRelease f s) (apply : s.applyPending = true)
    (free : (f (s.requesting false nobody)).arbiter.holder = none) :
    f s = arbitrate (tryBuildStart ((f (s.requesting false nobody)).requesting true s.arbiter.waiting)) := by
  rcases ends with ⟨u, releases⟩ | held
  · have whole : s.requesting true s.arbiter.waiting = s := by rw [← apply]; rfl
    calc f s = f (s.requesting true s.arbiter.waiting) := by rw [whole]
      _ = arbitrate (tryBuildStart (freeHolder (u.requesting true s.arbiter.waiting))) := by
        rw [releases, releaseGrant_requesting_apply]
      _ = _ := by
        rw [releases, releaseGrant_requesting_quiet]
        rfl
  · exact absurd free (held _ _)

theorem applyWaitingDrag_requesting (s : State) (apply : Bool) (w : Requests) :
    applyWaitingDrag (s.requesting apply w) = (applyWaitingDrag s).requesting apply w := by
  unfold applyWaitingDrag
  rw [show (s.requesting apply w).update = s.update from rfl]
  split
  · split <;> rfl
  · rfl

theorem settleReset_requesting (s : State) (apply : Bool) (w : Requests) :
    settleReset (s.requesting apply w) = (settleReset s).requesting apply w := by
  unfold settleReset
  rw [show (s.requesting apply w).update = s.update from rfl, show (s.requesting apply w).engine = s.engine from rfl,
    show (s.requesting apply w).tool = s.tool from rfl]
  split <;> rfl

theorem commitLeft_requesting (c : CommitInHand) (s : State) (apply : Bool) (w : Requests) :
    commitLeft c (s.requesting apply w) = (commitLeft c s).requesting apply w := by
  have handled : handlePress c ((s.requesting apply w).withTool { (s.requesting apply w).tool with commit := none }) =
      (handlePress c (s.withTool { s.tool with commit := none })).requesting apply w := by
    rw [handlePress_eq, handlePress_eq]
    rfl
  unfold commitLeft
  dsimp only
  rw [handled, applyWaitingDrag_requesting]
  generalize applyWaitingDrag (handlePress c (s.withTool { s.tool with commit := none })) = u
  rw [← settleReset_requesting, show (u.requesting apply w).engine = u.engine from rfl]
  split <;> rfl

/-- The end of a commit is a release (R127). -/
theorem EndsInRelease.of_endCommit {f : State → State} {s : State} (c : CommitInHand) (u : State)
    (ends : ∀ apply w, f (s.requesting apply w) = endCommit c (u.requesting apply w)) : EndsInRelease f s :=
  .inl ⟨commitLeft c u, fun apply w => by rw [ends, endCommit_eq_releaseGrant, commitLeft_requesting]⟩

/-- A command that leaves the grant where it is releases nothing. -/
theorem EndsInRelease.of_held {f : State → State} {s : State} (held : s.arbiter.holder ≠ none)
    (still : ∀ apply w, (f (s.requesting apply w)).arbiter.holder = s.arbiter.holder) : EndsInRelease f s :=
  .inr fun apply w => by rw [still]; exact held

theorem EndsInRelease.of_unmoved {f : State → State} {s : State} (held : s.arbiter.holder ≠ none)
    (still : ∀ apply w, f (s.requesting apply w) = s.requesting apply w) : EndsInRelease f s :=
  .of_held held fun apply w => by rw [still]; rfl

/-- A command that comes down to another from another state ends as that one. -/
theorem EndsInRelease.of_eq {f g : State → State} {s u : State} (ends : EndsInRelease g u)
    (same : ∀ apply w, f (s.requesting apply w) = g (u.requesting apply w)) : EndsInRelease f s := by
  simpa only [EndsInRelease, same] using ends

theorem cellApplies_endsInRelease (s : State) (held : s.arbiter.holder ≠ none) : EndsInRelease cellApplies s := by
  by_cases applying : ∃ list applied cell c,
      s.update.inFlight = some ⟨list, applied, cell, .applying c⟩ ∧ s.arbiter.holder = some .update
  · obtain ⟨list, applied, cell, c, flight, granted⟩ := applying
    refine .inl ⟨startWriteBack ⟨list, applied, cell, .applying c⟩ c (s.table.applyOp c).result
      (s.table.applyOp c).handleWord (putTable (s.table.applyOp c).table s), fun apply w => ?_⟩
    unfold cellApplies
    rw [show (s.requesting apply w).update.inFlight = _ from flight,
      show (s.requesting apply w).arbiter.holder = _ from granted]
    rfl
  · refine .of_unmoved held fun apply w => ?_
    unfold cellApplies
    split
    case h_1 list applied cell c flight granted => exact absurd ⟨list, applied, cell, c, flight, granted⟩ applying
    case h_2 => rfl

theorem completePick_endsInRelease (i : PickId) (s : State) : EndsInRelease (completePick i) s := by
  cases i
  · exact .inl ⟨raisePickDone .pick0 (s.withPick .pick0
      { s.pick0.withResult (pickSearch s.pick0 s.active.filters s.table) with aborted := false, control := .idle }),
      fun apply w => rfl⟩
  · exact .inl ⟨raisePickDone .pick1 (s.withPick .pick1
      { s.pick1.withResult (pickSearch s.pick1 s.active.filters s.table) with aborted := false, control := .idle }),
      fun apply w => rfl⟩

theorem pickCompletes_endsInRelease (s : State) (held : s.arbiter.holder ≠ none) : EndsInRelease pickCompletes s := by
  by_cases searching : ∃ i : PickId, s.arbiter.holder = some (slotTurn i).requester ∧ (s.pick i).control = .searching
  · obtain ⟨i, granted, searching⟩ := searching
    exact (completePick_endsInRelease i s).of_eq fun apply w => pickCompletes_searching i _ searching granted
  · refine .of_unmoved held fun apply w => ?_
    unfold pickCompletes
    split
    case h_1 granted => exact if_neg fun busy => searching ⟨.pick0, granted, busy⟩
    case h_2 granted => exact if_neg fun busy => searching ⟨.pick1, granted, busy⟩
    all_goals rfl

theorem finishCommit_endsInRelease (c : CommitInHand) (r : Resolution) (s : State) (held : s.arbiter.holder ≠ none) :
    EndsInRelease (finishCommit c r) s := by
  unfold finishCommit
  cases c.button with
  | place =>
    refine .of_endCommit c (appendRecord (placeRecord c.entry r s) (placedState r s)) fun apply w => ?_
    dsimp only
    rw [finishPlace_eq]
    rfl
  | aux => exact .of_endCommit c (appendRecord (auxRecord c.entry r s) s) fun apply w => finishAux_eq c r _
  | finish => exact .of_unmoved held fun _ _ => rfl
  | cancel => exact .of_unmoved held fun _ _ => rfl

theorem endCommitResolution_endsInRelease (r : Resolution) (s : State) (held : s.arbiter.holder ≠ none) :
    EndsInRelease (endCommitResolution r) s := by
  by_cases resolving : ∃ entry button queued, s.tool.commit = some ⟨entry, button, queued, true⟩
  · obtain ⟨entry, button, queued, commit⟩ := resolving
    refine (finishCommit_endsInRelease ⟨entry, button, queued, true⟩ r s held).of_eq fun apply w => ?_
    rw [endCommitResolution, show (s.requesting apply w).tool.commit = _ from commit]
  · refine .of_unmoved held fun apply w => ?_
    unfold endCommitResolution
    split
    case h_1 entry button queued commit => exact absurd ⟨entry, button, queued, commit⟩ resolving
    case h_2 => rfl

theorem endBuildResolution_endsInRelease (r : Resolution) (s : State) (held : s.arbiter.holder ≠ none) :
    EndsInRelease (endBuildResolution r) s := by
  by_cases resolving : ∃ bank number snap sort, s.builder.build = some ⟨bank, number, snap, sort, .resolving⟩
  · obtain ⟨bank, number, snap, sort, build⟩ := resolving
    refine .inl ⟨s.withBuilder { s.builder with
      build := some ⟨bank, number, snap, sort, .composing (some r) s.table.generation⟩ }, fun apply w => ?_⟩
    rw [endBuildResolution, show (s.requesting apply w).builder.build = _ from build]
    rfl
  · refine .of_unmoved held fun apply w => ?_
    unfold endBuildResolution
    split
    case h_1 bank number snap sort build => exact absurd ⟨bank, number, snap, sort, build⟩ resolving
    case h_2 => rfl

/-- The result of a resolution goes to the holder of the grant (R120). -/
def resolutionGoesTo (holder : Requester) (result : Resolution) : State → State :=
  match holder with
  | .build => endBuildResolution result
  | .commit => endCommitResolution result
  | _ => id

theorem resolutionGoesTo_endsInRelease (r : Requester) (result : Resolution) (s : State)
    (held : s.arbiter.holder ≠ none) : EndsInRelease (resolutionGoesTo r result) s := by
  cases r with
  | build => exact endBuildResolution_endsInRelease result s held
  | commit => exact endCommitResolution_endsInRelease result s held
  | update => exact .of_unmoved held fun _ _ => rfl
  | pick0 => exact .of_unmoved held fun _ _ => rfl
  | pick1 => exact .of_unmoved held fun _ _ => rfl

theorem resolutionEnds_eq (s : State) (r : Requester) (inputs : ResolutionInputs) (held : s.arbiter.holder = some r)
    (resolution : s.resolver.resolution = some inputs) :
    resolutionEnds s =
      resolutionGoesTo r (resolve inputs s.table) (endResolution (resolve inputs s.table) s) := by
  rw [resolutionEnds, resolution]
  dsimp only
  rw [show (endResolution (resolve inputs s.table) s).arbiter.holder = some r from held]
  cases r <;> rfl

theorem resolutionEnds_endsInRelease (s : State) (r : Requester) (held : s.arbiter.holder = some r) :
    EndsInRelease resolutionEnds s := by
  have held' : s.arbiter.holder ≠ none := by simp [held]
  rcases resolution : s.resolver.resolution with _ | inputs
  · refine .of_unmoved held' fun apply w => ?_
    rw [resolutionEnds, show (s.requesting apply w).resolver.resolution = _ from resolution]
  · exact (resolutionGoesTo_endsInRelease r (resolve inputs s.table) (endResolution (resolve inputs s.table) s)
      held').of_eq fun apply w => resolutionEnds_eq (s.requesting apply w) r inputs held resolution

/-! ### Where the apply is taken (R149, R185) -/

theorem applied_commit (s : State) : (applied s).tool.commit = s.tool.commit := by
  show (if _ then s.tool else _ : ToolUnit).commit = _
  split <;> rfl

theorem buildDue_applied (s : State) (due : buildDue s = true) : buildDue (applied s) = true := by
  obtain ⟨-, build, run⟩ := (buildDue_iff s).1 due
  exact (buildDue_iff _).2 ⟨rfl, build, run⟩

theorem tryBuildStart_held (s : State) (apply : s.applyPending = true) (held : s.arbiter.holder ≠ none) :
    tryBuildStart s = s := by
  rw [tryBuildStart, if_pos (show s.applyPending = true ∧ s.arbiter.holder ≠ none from ⟨apply, held⟩), ite_self]

/-- A build start takes a pending apply before anything else (R149). -/
theorem tryBuildStart_applied (s : State) (bank : Fin 3) (lowest : LowestFree s bank) (due : buildDue s = true)
    (apply : s.applyPending = true) (free : s.arbiter.holder = none) :
    tryBuildStart s = tryBuildStart (applied s) := by
  have taken : tryBuildStart s = beginBuild bank (applied s) := by
    rw [tryBuildStart, if_neg (by simp [due]), if_neg (by simp [free]), makeBuildStart,
      freeBank_eq_some s bank lowest, apply, if_pos rfl, takeApply_eq_applied]
  rw [taken, tryBuildStart_free (applied s) bank (freeBank_eq_some s bank lowest) (buildDue_applied s due) rfl]

/-- A commit takes a pending apply under its grant, before its refusal tests (R127, R185). -/
theorem beginCommit_applied (c : CommitInHand) (s : State) (apply : s.applyPending = true) :
    beginCommit c s = beginCommit c (applied s) := by
  unfold beginCommit
  rw [apply, if_pos rfl, takeApply_eq_applied, show (applied s).applyPending = false from rfl,
    if_neg Bool.false_ne_true]

theorem tableGrant_commit (s : State) (c : CommitInHand) (held : s.arbiter.holder = some .commit)
    (commit : s.tool.commit = some c) (fresh : c.resolving = false) : tableGrant s = beginCommit c s := by
  obtain ⟨entry, button, queued, resolving⟩ := c
  obtain rfl : resolving = false := fresh
  unfold tableGrant
  rw [arbitrate_held s .commit held]
  dsimp only
  rw [held]
  dsimp only
  rw [beginGrantedCommit, commit]

/-- The trim of an apply releases the oldest learned points beyond the new capacity (R73). -/
theorem Table.Law.trim_outcome {t : Table} {old : Nat} (law : t.Law old) (cap : Nat) :
    let gone := t.learned.take (t.learned.length - cap)
    (t.trim cap).learned = t.learned.drop (t.learned.length - cap) ∧ Released t (t.trim cap) (· ∈ gone) ∧
      (∀ n ∈ gone, EnteredNowhere (t.trim cap) n) ∧ Counted t (t.trim cap) (cap < t.learned.length) := by
  intro gone
  obtain ⟨released, nowhere, x, y, k, advanced, stays⟩ :=
    law.drop_outcome gone (· ∈ gone) (fun _ => Iff.rfl) fun n mem => law.learned_occupied (List.mem_of_mem_take mem)
  have some_gone : (∃ n, n ∈ gone) ↔ cap < t.learned.length := by
    rw [← List.length_pos_iff_exists_mem, List.length_take]
    omega
  refine ⟨?_, released, nowhere, x, y, k, fun more => advanced (some_gone.2 more),
    fun none => stays fun more => none (some_gone.1 more)⟩
  unfold Table.trim Table.drop
  split
  · rename_i none
    have few : t.learned.length - cap = 0 := by
      by_contra many
      have length := congrArg List.length none
      rw [List.length_take, List.length_nil] at length
      omega
    rw [few, List.drop_zero]
  · exact law.releaseOldest_learned _

end Sys2Proof.Machine

namespace Sys2Proof.Claims

open Sys2Proof.Machine

/-- Settles O53: each release comes down to one that an apply and the requests wait for; what the apply changes is
`applied`, and neither a build start nor a commit reads the state before it. -/
theorem applyIsTakenFirst : Obligations.ApplyIsTakenFirst := by
  refine ⟨fun st => ?_, fun st active => ⟨settingPlaces_clamped st active, signedWord_sat_toInt _,
    signedWord_sat_toInt _⟩, fun s apply => ⟨fun release t releases held quiet free => ?_,
    fun rebuild build run => ⟨fun held => ?_, fun free bank lowest => ?_⟩, fun e b q held commit => ?_,
    fun law => law.trim_outcome _⟩⟩
  · simp only [List.forall_mem_cons, List.not_mem_nil, false_implies, implies_true, and_true]
    refine ⟨?_, ?_, ?_, ?_, ?_, ?_⟩ <;> exact fun code => by rw [Settings.toolInForce, code]; rfl
  · obtain ⟨r, holder⟩ := Option.ne_none_iff_exists'.1 held
    have ends : ∃ f, EndsInRelease f s ∧ ∀ u, exec release u = .next (f u) := by
      rcases releases with rfl | rfl | rfl
      · exact ⟨resolutionEnds, resolutionEnds_endsInRelease s r holder, fun _ => rfl⟩
      · exact ⟨cellApplies, cellApplies_endsInRelease s held, fun _ => rfl⟩
      · exact ⟨pickCompletes, pickCompletes_endsInRelease s held, fun _ => rfl⟩
    obtain ⟨f, ends, made⟩ := ends
    rw [made] at quiet
    cases quiet
    exact ⟨_, rfl, by rw [made, ends.apply apply free]; rfl⟩
  · rw [exec_buildStart, tryBuildStart_held s apply held]
  · rw [exec_buildStart, exec_buildStart,
      ← tryBuildStart_applied s bank lowest ((buildDue_iff s).2 ⟨rebuild, build, run⟩) apply free]
  · rw [exec_tableGrant, exec_tableGrant, tableGrant_commit s _ held commit rfl,
      tableGrant_commit (applied s) _ held ((applied_commit s).trans commit) rfl, beginCommit_applied _ s apply]

end Sys2Proof.Claims

/-! ## ENGINE_RESET block by block (R45, R77, R96, R114, R145, R169, R177, R183) -/

namespace Sys2Proof.Machine

open Sys2Proof.Claims

/-! ### What each block keeps and clears -/

/-- The tool unit after ENGINE_RESET (R145): a commit at work stays, its press already out of the queue. -/
def ToolUnit.afterReset (t : ToolUnit) : ToolUnit :=
  match t.commit with
  | some ⟨entry, button, _, true⟩ => { t with commit := some ⟨entry, button, false, true⟩ }
  | _ => { t with context := ToolContext.empty, drag := Drag.empty, commit := none, log := [] }

/-- The builder after ENGINE_RESET (R169). -/
def Builder.afterReset (b : Builder) : Builder :=
  { b with rebuild := true, banks := b.banks.map Bank.afterReset, build := none, lastDrawing := none }

/-- The resolver after ENGINE_RESET at the builder: the resolution of a build is abandoned (R169). -/
def State.resolverLeft (s : State) : Resolver :=
  if s.begun .build then ⟨if s.resolver.emptying then none else s.resolver.capture, false, none⟩ else s.resolver

/-- The resolver after the emptying of its capture (R114). -/
def Resolver.emptied (r : Resolver) : Resolver :=
  ⟨if r.resolution = none then none else r.capture, r.emptying || r.resolution.isSome, r.resolution⟩

/-- A pick slot after ENGINE_RESET (R177). -/
def PickSlot.afterReset (p : PickSlot) : PickSlot :=
  if p.control = .idle then p else { p.cleared with aborted := true, control := .idle }

/-- The update engine after ENGINE_RESET (R96). -/
def UpdateEngine.afterReset (u : UpdateEngine) : UpdateEngine :=
  if boundaryAtOnce u.inFlight then
    { u with inFlight := none, waiting := none, teardown := false, done := 0, record := LastList.cleared }
  else u

theorem resetLink_eq (s : State) : ∃ rebuild, resetLink s = { s with
    link := { s.link with
      condition := .none, fValid := false, buttons := Vector.replicate 4 ⟨false, none⟩, queue := [] }
    builder := { s.builder with rebuild := rebuild } } :=
  ⟨_, by rw [resetLink, cursorLost_eq]; rfl⟩

theorem resetTool_eq (s : State) : ∃ a rebuild, a.turn = s.arbiter.turn ∧
    resetTool s = { s with
      arbiter := a, tool := s.tool.afterReset, builder := { s.builder with rebuild := rebuild } } := by
  unfold resetTool ToolUnit.afterReset
  rcases commit : s.tool.commit with _ | ⟨entry, button, queued, resolving⟩
  · have same : { s.tool with context := ToolContext.empty, drag := Drag.empty, commit := none, log := [] } =
        { s.tool with context := ToolContext.empty, drag := Drag.empty, log := [] } := by rw [← commit]
    exact ⟨s.arbiter, _, rfl, by dsimp only; rw [same]; rfl⟩
  · cases resolving
    · exact ⟨(withdraw .commit s).arbiter, _, rfl, rfl⟩
    · exact ⟨s.arbiter, _, rfl, rfl⟩

theorem resetBuilder_eq (s : State) : ∃ a : Arbiter, a.turn = s.arbiter.turn ∧
    resetBuilder s = { s with arbiter := a, resolver := s.resolverLeft, builder := s.builder.afterReset } := by
  unfold resetBuilder State.resolverLeft State.begun
  rcases build : s.builder.build with _ | ⟨bank, number, snap, sort, phase⟩
  · exact ⟨s.arbiter, rfl, rfl⟩
  · cases phase with
    | waiting => exact ⟨(withdraw .build s).arbiter, rfl, rfl⟩
    | resolving => exact ⟨(withdraw .build s).arbiter, rfl, rfl⟩
    | composing result generation => exact ⟨s.arbiter, rfl, rfl⟩

theorem abortPick0_eq (s : State) : ∃ a : Arbiter, a.turn = s.arbiter.turn ∧
    abortPick .pick0 s = { s with
      arbiter := a, pick0 := s.pick0.afterReset
      appNotices := raised s.appNotices [(s.pick0.control != .idle, .pick0Done)] } := by
  unfold abortPick PickSlot.afterReset
  dsimp only [State.pick]
  by_cases idle : s.pick0.control = .idle
  · refine ⟨s.arbiter, rfl, ?_⟩
    rw [if_pos idle, if_pos idle, idle]
    simp
  · refine ⟨(withdraw .pick0 s).arbiter, rfl, ?_⟩
    rw [if_neg idle, if_neg idle, bne_iff_ne.2 idle]
    exact raiseApp_eq_raised _ _

theorem abortPick1_eq (s : State) : ∃ a : Arbiter, a.turn = s.arbiter.turn ∧
    abortPick .pick1 s = { s with
      arbiter := a, pick1 := s.pick1.afterReset
      dispNotices :=
        if s.pick1.control = .idle then s.dispNotices else s.dispNotices.raise DispNotice.pick1Done.bit } := by
  unfold abortPick PickSlot.afterReset
  dsimp only [State.pick]
  by_cases idle : s.pick1.control = .idle
  · refine ⟨s.arbiter, rfl, ?_⟩
    rw [if_pos idle, if_pos idle, if_pos idle]
  · refine ⟨(withdraw .pick1 s).arbiter, rfl, ?_⟩
    rw [if_neg idle, if_neg idle, if_neg idle]
    rfl

theorem resetUpdate_eq (s : State) : ∃ a : Arbiter, a.turn = s.arbiter.turn ∧
    resetUpdate s = { s with arbiter := a, update := s.update.afterReset } := by
  unfold UpdateEngine.afterReset
  rcases resetUpdate_cases s with ⟨atOnce, reset⟩ | ⟨later, reset⟩
  · exact ⟨(withdraw .update s).arbiter, rfl, by rw [reset, if_pos atOnce]; rfl⟩
  · exact ⟨s.arbiter, rfl, by rw [reset, later, if_neg Bool.false_ne_true]⟩

theorem settleReset_eq (s : State) (resetting : s.engine = .resetting) :
    settleReset s =
      let settled := decide (s.update.inFlight = none ∧ s.tool.commit = none)
      { s with
        engine := if settled then .run else .resetting
        appNotices := raised s.appNotices [(settled, .resetDone)] } := by
  unfold settleReset
  by_cases settled : s.update.inFlight = none ∧ s.tool.commit = none
  · rw [if_pos ⟨resetting, settled⟩, decide_eq_true settled, raiseApp_eq_raised]
    rfl
  · rw [if_neg fun all => settled all.2, decide_eq_false settled]
    simp [← resetting]

/-! ### The reset as a whole -/

/-- The effect of ENGINE_RESET on every block, before the table is arbitrated (R183; log 23). -/
def resetBlocks (s : State) : State :=
  let s := { s with appNotices := s.appNotices.clear (BitVec.allOnes 14), engine := .resetting }
  settleReset (resetUpdate
    (abortPick .pick1 (abortPick .pick0 (emptyCapture (resetBuilder (resetTool (resetLink s)))))))

theorem resetEngine_eq_arbitrate (s : State) : resetEngine s = arbitrate (resetBlocks s) := rfl

/-- The state that ENGINE_RESET leaves, but for the arbiter. -/
def State.afterReset (s : State) (a : Arbiter) : State :=
  let settled := decide (s.update.afterReset.inFlight = none ∧ s.tool.afterReset.commit = none)
  { s with
    link := { s.link with
      condition := .none, fValid := false, buttons := Vector.replicate 4 ⟨false, none⟩, queue := [] }
    engine := if settled then .run else .resetting
    arbiter := a
    update := s.update.afterReset
    resolver := s.resolverLeft.emptied
    tool := s.tool.afterReset
    builder := s.builder.afterReset
    pick0 := s.pick0.afterReset
    pick1 := s.pick1.afterReset
    appNotices := raised ⟨0, s.appNotices.enabled⟩
      [(s.pick0.control != .idle, .pick0Done), (settled, .resetDone)]
    dispNotices :=
      if s.pick1.control = .idle then s.dispNotices else s.dispNotices.raise DispNotice.pick1Done.bit }

theorem NoticeUnit.clear_allOnes {w : Nat} (u : NoticeUnit w) : u.clear (BitVec.allOnes w) = ⟨0, u.enabled⟩ := by
  simp [NoticeUnit.clear]

/-- Each block makes its own reset effect, and the round-robin position stays (R77, R183). -/
theorem resetBlocks_eq (s : State) : ∃ a : Arbiter, a.turn = s.arbiter.turn ∧ resetBlocks s = s.afterReset a := by
  unfold resetBlocks
  rw [NoticeUnit.clear_allOnes]
  dsimp only
  generalize cleared : ({ s with appNotices := ⟨0, s.appNotices.enabled⟩, engine := .resetting } : State) = s0
  obtain ⟨_, link⟩ := resetLink_eq s0
  generalize resetLink s0 = s1 at *
  obtain ⟨_, _, toolTurn, tool⟩ := resetTool_eq s1
  generalize resetTool s1 = s2 at *
  obtain ⟨_, builderTurn, builder⟩ := resetBuilder_eq s2
  generalize resetBuilder s2 = s3 at *
  have capture := emptyCapture_eq s3
  generalize emptyCapture s3 = s4 at *
  obtain ⟨_, pick0Turn, pick0⟩ := abortPick0_eq s4
  generalize abortPick .pick0 s4 = s5 at *
  obtain ⟨_, pick1Turn, pick1⟩ := abortPick1_eq s5
  generalize abortPick .pick1 s5 = s6 at *
  obtain ⟨a, updateTurn, update⟩ := resetUpdate_eq s6
  generalize resetUpdate s6 = s7 at *
  subst cleared
  dsimp only at link
  subst link
  dsimp only at tool toolTurn
  subst tool
  dsimp only at builder builderTurn
  subst builder
  dsimp only at capture
  subst capture
  dsimp only at pick0 pick0Turn
  subst pick0
  dsimp only at pick1 pick1Turn
  subst pick1
  dsimp only at update updateTurn
  subst update
  refine ⟨a, ?_, (settleReset_eq _ rfl).trans ?_⟩
  · rw [updateTurn, pick1Turn, pick0Turn, builderTurn, toolTurn]
  · dsimp only
    rw [raised_raised]
    rfl

/-! ### Nobody waits after it (R77, R183; logs 10, 23) -/

theorem resetBlocks_ownLaw (s : State) (law : s.GrantLaw) : (resetBlocks s).access.OwnLaw := by
  obtain ⟨own, -, -⟩ := (State.grantLaw_iff s).1 law
  unfold resetBlocks
  dsimp only
  generalize cleared : ({ s with
    appNotices := s.appNotices.clear (BitVec.allOnes 14), engine := .resetting } : State) = u
  have same : (resetLink u).access = s.access := by
    rw [(resetLink_frame u).access, ← cleared]
    rfl
  rw [← same] at own
  rw [settleReset_access]
  exact (resetUpdate_ownLaw _ (abortPick_ownLaw .pick1 _ (abortPick_ownLaw .pick0 _
    (emptyCapture_ownLaw _ (resetBuilder_ownLaw _ (resetTool_ownLaw _ own)))))).1

theorem ToolUnit.afterReset_of_waiting (t : ToolUnit)
    (waits : (t.commit.map CommitInHand.resolving).getD false = false) :
    t.afterReset = { t with context := ⟨0, none, none⟩, drag := ⟨none, []⟩, commit := none, log := [] } := by
  unfold ToolUnit.afterReset
  rcases commit : t.commit with _ | ⟨entry, button, queued, resolving⟩
  · rfl
  · rw [commit] at waits
    obtain rfl : resolving = false := waits
    rfl

theorem ToolUnit.afterReset_of_resolving (t : ToolUnit) (c : CommitInHand) (commit : t.commit = some c)
    (resolving : c.resolving = true) : t.afterReset = { t with commit := some { c with queued := false } } := by
  obtain ⟨entry, button, queued, _⟩ := c
  cases resolving
  rw [ToolUnit.afterReset, commit]

theorem boundaryAtOnce_iff (s : State) : boundaryAtOnce s.update.inFlight = true ↔
    s.stage = none ∨ ∃ c, s.stage = some (.waiting c) ∨ s.stage = some (.granted c) := by
  unfold State.stage
  rcases s.update.inFlight with _ | ⟨list, applied, cell, stage⟩
  · simp [boundaryAtOnce]
  · cases stage <;> simp [boundaryAtOnce]

theorem PickSlot.afterReset_idle (p : PickSlot) : p.afterReset.control = .idle := by
  unfold PickSlot.afterReset
  split
  · assumption
  · rfl

/-- The list that ENGINE_RESET leaves in flight is not at a boundary. -/
theorem UpdateEngine.afterReset_inFlight (u : UpdateEngine) (f : InFlight) (flight : u.afterReset.inFlight = some f) :
    u.inFlight = some f ∧ boundaryAtOnce u.inFlight = false := by
  unfold UpdateEngine.afterReset at flight
  split at flight
  · cases flight
  · rename_i later
    exact ⟨flight, Bool.eq_false_iff.2 later⟩

/-- Every operation that ENGINE_RESET leaves outstanding is at work under its grant (log 10). -/
theorem afterReset_outstanding (s : State) (a : Arbiter) (r : Requester)
    (left : (s.afterReset a).outstanding r = true) : (s.afterReset a).begun r = true := by
  cases r with
  | commit =>
    have left : s.tool.afterReset.commit.isSome = true := left
    show (s.tool.afterReset.commit.map CommitInHand.resolving).getD false = true
    cases waits : (s.tool.commit.map CommitInHand.resolving).getD false
    · rw [s.tool.afterReset_of_waiting waits] at left
      cases left
    · rcases commit : s.tool.commit with _ | c
      · rw [commit] at waits
        cases waits
      · rw [commit] at waits
        rw [s.tool.afterReset_of_resolving c commit waits]
        exact waits
  | build => cases left
  | update =>
    rcases flight : s.update.afterReset.inFlight with _ | ⟨list, applied, cell, stage⟩
    · simp [State.outstanding, State.stage, State.afterReset, flight] at left
    · obtain ⟨was, later⟩ := s.update.afterReset_inFlight _ flight
      rw [was] at later
      simp only [State.outstanding, State.begun, State.stage, State.afterReset, flight, Option.map_some,
        Option.getD_some] at left ⊢
      cases stage <;> simp_all [boundaryAtOnce, Stage.needsTable, Stage.isApplying]
  | pick0 => exact absurd s.pick0.afterReset_idle (bne_iff_ne.1 left)
  | pick1 => exact absurd s.pick1.afterReset_idle (bne_iff_ne.1 left)

/-- Where every outstanding operation is at work, nobody waits. -/
theorem nobody_waits_of_begun (s : State) (own : s.access.OwnLaw)
    (atWork : ∀ r, s.outstanding r = true → s.begun r = true) (r : Requester) : s.arbiter.waiting.get r = false := by
  by_contra waits
  rw [Bool.not_eq_false] at waits
  have owns := own.owns r
  have owned : s.outstanding r = true := by
    rw [← s.access_outstanding, owns.owned]
    exact Bool.or_eq_true_iff.2 (.inl waits)
  have held := owns.begun ((s.access_begun r).trans (atWork r owned))
  exact Bool.false_ne_true ((owns.single held).symm.trans waits)

theorem resetEngine_eq (s : State) (law : s.GrantLaw) : ∃ a : Arbiter, a.turn = s.arbiter.turn ∧
    (∀ r, a.waiting.get r = false) ∧ (s.afterReset a).access.OwnLaw ∧ resetEngine s = s.afterReset a := by
  obtain ⟨a, turn, blocks⟩ := resetBlocks_eq s
  have own := resetBlocks_ownLaw s law
  rw [blocks] at own
  have nobody := nobody_waits_of_begun _ own (afterReset_outstanding s a)
  exact ⟨a, turn, nobody, own, by rw [resetEngine_eq_arbitrate, blocks, arbitrate_of_nobody _ nobody]⟩

/-! ### The grant that is left (R77) -/

theorem afterReset_begun_commit (s : State) (a : Arbiter) : (s.afterReset a).begun .commit = s.begun .commit := by
  show (s.tool.afterReset.commit.map CommitInHand.resolving).getD false = _
  unfold ToolUnit.afterReset State.begun
  rcases s.tool.commit with _ | ⟨entry, button, queued, resolving⟩
  · rfl
  · cases resolving <;> rfl

theorem afterReset_begun_update (s : State) (a : Arbiter) :
    (s.afterReset a).begun .update = true ↔ ∃ c, s.stage = some (.applying c) := by
  show ((s.update.afterReset.inFlight.map InFlight.stage).map Stage.isApplying).getD false = true ↔ _
  unfold UpdateEngine.afterReset State.stage
  rcases flight : s.update.inFlight with _ | ⟨list, applied, cell, stage⟩
  · simp [boundaryAtOnce]
  · cases stage <;> simp [boundaryAtOnce, Stage.isApplying, flight]

/-- The grant belongs to the one operation that is left at work. -/
theorem afterReset_holder (s : State) (a : Arbiter) (own : (s.afterReset a).access.OwnLaw) :
    a.holder = if s.begun .commit then some .commit
      else match s.stage with
        | some (.applying _) => some .update
        | _ => none := by
  have granted : ∀ r, (s.afterReset a).begun r = true → a.holder = some r := fun r begun =>
    (own.owns r).begun ((State.access_begun _ r).trans begun)
  have holds : ∀ r, a.holder = some r → (s.afterReset a).begun r = true := fun r held => by
    have owned : (s.afterReset a).outstanding r = (a.waiting.get r || a.holder == some r) :=
      (State.access_outstanding _ r).symm.trans (own.owns r).owned
    exact afterReset_outstanding s a r (owned.trans (by simp [held]))
  cases commit : s.begun .commit
  · have noCommit : a.holder ≠ some .commit := fun held => by
      have begun := holds .commit held
      rw [afterReset_begun_commit, commit] at begun
      cases begun
    have onlyUpdate : ∀ r, a.holder = some r → r = .update := fun r held => by
      cases r with
      | update => rfl
      | commit => exact absurd held noCommit
      | build => cases holds .build held
      | pick0 =>
        have searching : s.pick0.afterReset.control = .searching := beq_iff_eq.1 (holds .pick0 held)
        cases s.pick0.afterReset_idle.symm.trans searching
      | pick1 =>
        have searching : s.pick1.afterReset.control = .searching := beq_iff_eq.1 (holds .pick1 held)
        cases s.pick1.afterReset_idle.symm.trans searching
    have free : (∀ c, s.stage ≠ some (.applying c)) → a.holder = none := fun still => by
      by_contra some
      obtain ⟨r, held⟩ := Option.ne_none_iff_exists'.1 some
      obtain rfl := onlyUpdate r held
      obtain ⟨c, applying⟩ := (afterReset_begun_update s a).1 (holds .update held)
      exact still c applying
    rw [if_neg Bool.false_ne_true]
    split
    · rename_i c applying
      exact granted .update ((afterReset_begun_update s a).2 ⟨c, applying⟩)
    · rename_i still
      exact free still
  · rw [if_pos rfl]
    exact granted .commit ((afterReset_begun_commit s a).trans commit)

/-! ### Resolver, banks and notices (R114, R169, R183) -/

theorem resolverLeft_emptied_of_still (s : State) (law : s.GrantLaw) (still : s.begun .commit = false) :
    s.resolverLeft.emptied = ⟨none, false, none⟩ := by
  have resolution := law.resolution
  rw [still, Bool.false_or] at resolution
  unfold State.resolverLeft
  cases build : s.begun .build
  · rw [build] at resolution
    have idle : s.resolver.resolution = none := by simpa using resolution
    have settled : s.resolver.emptying = false := by
      by_contra waits
      exact Bool.false_ne_true (resolution.symm.trans (law.emptying (by simpa using waits)))
    simp [Resolver.emptied, idle, settled]
  · simp [Resolver.emptied]

theorem resolverLeft_emptied_of_resolving (s : State) (law : s.GrantLaw) (resolving : s.begun .commit = true) :
    s.resolverLeft.emptied = { s.resolver with emptying := true } := by
  have resolution := law.resolution
  rw [resolving, Bool.true_or] at resolution
  have noBuild : s.begun .build ≠ true := fun build =>
    absurd ((law.begun .commit resolving).symm.trans (law.begun .build build)) (by simp)
  have busy : s.resolver.resolution ≠ none := Option.isSome_iff_ne_none.1 resolution
  rw [State.resolverLeft, if_neg noBuild, Resolver.emptied, if_neg busy, resolution, Bool.or_true]

theorem Bank.afterReset_eq_ite (b : Bank) :
    b.afterReset = if b.state = .building ∨ b.state = .ready then { b with state := .free } else b := by
  obtain ⟨st, entries⟩ := b
  cases st <;> rfl

theorem Builder.afterReset_eq (b : Builder) : b.afterReset = { b with
    rebuild := true
    banks := b.banks.map fun b => if b.state = .building ∨ b.state = .ready then { b with state := .free } else b
    build := none
    lastDrawing := none } := by
  rw [Builder.afterReset, funext Bank.afterReset_eq_ite]

/-- Each notice has its own bit (R188). -/
theorem AppNotice.bit_injective (n m : AppNotice) : n.bit = m.bit → n = m := by
  cases n <;> cases m <;> decide

/-- The application notices after ENGINE_RESET (R177, R183). -/
theorem afterReset_appNotices_getLsbD (s : State) (a : Arbiter) (i : Nat) (inWord : i < 14) :
    (s.afterReset a).appNotices.raised.getLsbD i =
      ((decide (s.update.afterReset.inFlight = none ∧ s.tool.afterReset.commit = none) && decide (13 = i)) ||
        (s.pick0.control != .idle) && decide (10 = i)) := by
  unfold State.afterReset
  dsimp only
  rw [raised_getLsbD _ _ _ _ inWord, raised_getLsbD _ _ _ _ inWord, raised_nil]
  show (((0 : BitVec 14).getLsbD i || _) || _) = _
  rw [show (0 : BitVec 14).getLsbD i = false by simp, Bool.false_or]
  rfl

/-- The display notices after ENGINE_RESET (R177). -/
theorem afterReset_dispNotices_getLsbD (s : State) (a : Arbiter) (n : DispNotice) :
    (s.afterReset a).dispNotices.raised.getLsbD n.bit =
      (s.dispNotices.raised.getLsbD n.bit || (n == .pick1Done && s.pick1.control != .idle)) := by
  have bit : (oneBit 3 DispNotice.pick1Done.bit).getLsbD n.bit = (n == .pick1Done) := by cases n <;> rfl
  show (if s.pick1.control = .idle then s.dispNotices else s.dispNotices.raise DispNotice.pick1Done.bit
    : NoticeUnit 3).raised.getLsbD n.bit = _
  by_cases idle : s.pick1.control = .idle
  · rw [if_pos idle, idle, bne_self_eq_false, Bool.and_false, Bool.or_false]
  · rw [if_neg idle, bne_iff_ne.2 idle, Bool.and_true, NoticeUnit.raise, BitVec.getLsbD_or, bit]

theorem exec_engineReset (s : State) : exec .engineReset s = .next (accessed .app locCommand (engineReset s)) := rfl

theorem engineReset_resetting (s : State) (resetting : s.engine = .resetting) : engineReset s = s := by
  rw [engineReset, resetting]

theorem exec_engineReset_run (s : State) (run : s.engine = .run) :
    exec .engineReset s =
      .next { resetEngine s with ports := { (resetEngine s).ports with appIndex := 0 } } := by
  rw [exec_engineReset, engineReset, run, accessed_command]

/-! ### The return to RUN (R183; log 11) -/

theorem UpdateEngine.afterReset_atOnce (u : UpdateEngine) (atOnce : boundaryAtOnce u.inFlight = true) :
    u.afterReset = { u with
      inFlight := none, waiting := none, teardown := false, done := 0, record := ⟨⟨0, 0⟩, .none, 0, 0⟩ } :=
  if_pos atOnce

theorem UpdateEngine.afterReset_later (u : UpdateEngine) (later : boundaryAtOnce u.inFlight ≠ true) :
    u.afterReset = u ∧ u.afterReset.inFlight ≠ none := by
  rw [show u.afterReset = u from if_neg later]
  exact ⟨rfl, fun none => later (by rw [none]; rfl)⟩

theorem afterReset_engine_resetting (s : State) (a : Arbiter)
    (busy : ¬ (s.update.afterReset.inFlight = none ∧ s.tool.afterReset.commit = none)) :
    (s.afterReset a).engine = .resetting := by
  show (if decide _ = true then EngineState.run else .resetting) = _
  rw [decide_eq_false busy, if_neg Bool.false_ne_true]

/-- With the lists at a boundary and no commit at work the engine is back in RUN. -/
theorem afterReset_returns (s : State) (a : Arbiter) (atOnce : boundaryAtOnce s.update.inFlight = true)
    (still : s.begun .commit = false) :
    (s.afterReset a).engine = .run ∧ (s.afterReset a).appNotices.raised.getLsbD 13 = true := by
  have settled : s.update.afterReset.inFlight = none ∧ s.tool.afterReset.commit = none := by
    rw [s.update.afterReset_atOnce atOnce, s.tool.afterReset_of_waiting still]
    exact ⟨rfl, rfl⟩
  refine ⟨?_, ?_⟩
  · show (if decide _ = true then EngineState.run else .resetting) = _
    rw [decide_eq_true settled, if_pos rfl]
  · rw [afterReset_appNotices_getLsbD s a 13 (by decide), decide_eq_true settled]
    rfl

end Sys2Proof.Machine

namespace Sys2Proof.Claims

open Sys2Proof.Machine

/-- Settles O23: each block makes its own effect; what is left outstanding is at work under its grant, so that nobody
waits and the table is not granted anew. -/
theorem engineResetActsOnEveryBlock : Obligations.EngineResetActsOnEveryBlock := by
  intro s
  refine ⟨fun resetting => ?_, fun law run => ?_⟩
  · rw [exec_engineReset, engineReset_resetting s resetting, accessed_command]
  · obtain ⟨a, turn, nobody, own, reset⟩ := resetEngine_eq s law
    rw [exec_engineReset_run s run, reset]
    refine ⟨_, rfl, rfl, rfl, rfl, rfl, rfl, s.builder.afterReset_eq,
      fun still => ⟨resolverLeft_emptied_of_still s law still, s.tool.afterReset_of_waiting still⟩,
      fun c commit resolving => ?_, ⟨fun atOnce => ?_, fun later => ?_, fun still atOnce => ?_⟩, nobody, turn,
      afterReset_holder s a own, fun i idle => ?_, fun i busy => ?_, rfl, ?_, fun n noPick noReset => ?_, ?_,
      afterReset_dispNotices_getLsbD s a, rfl, rfl, rfl⟩
    · have tool := s.tool.afterReset_of_resolving c commit resolving
      have begun : s.begun .commit = true := by
        show (s.tool.commit.map CommitInHand.resolving).getD false = true
        rw [commit]
        exact resolving
      refine ⟨resolverLeft_emptied_of_resolving s law begun, tool, afterReset_engine_resetting s a fun idle => ?_⟩
      rw [tool] at idle
      exact Option.some_ne_none _ idle.2
    · exact s.update.afterReset_atOnce ((boundaryAtOnce_iff s).2 atOnce)
    · obtain ⟨same, flight⟩ := s.update.afterReset_later fun atOnce => later ((boundaryAtOnce_iff s).1 atOnce)
      exact ⟨same, afterReset_engine_resetting s a fun idle => flight idle.1⟩
    · exact afterReset_returns s a ((boundaryAtOnce_iff s).2 atOnce) still
    · cases i <;> exact if_pos idle
    · cases i <;> exact if_neg busy
    · show (if s.pick1.control = .idle then s.dispNotices else _ : NoticeUnit 3).enabled = _
      split <;> rfl
    · have noPick : 10 ≠ n.bit := fun same => noPick (AppNotice.bit_injective n .pick0Done same.symm)
      have noReset : 13 ≠ n.bit := fun same => noReset (AppNotice.bit_injective n .resetDone same.symm)
      refine (afterReset_appNotices_getLsbD s a _ n.bit_lt).trans ?_
      rw [decide_eq_false noPick, decide_eq_false noReset, Bool.and_false, Bool.and_false, Bool.or_false]
    · refine (afterReset_appNotices_getLsbD s a 10 (by decide)).trans ?_
      rw [decide_eq_false (show ¬ 13 = 10 by decide), decide_eq_true rfl, Bool.and_false, Bool.false_or, Bool.and_true]

end Sys2Proof.Claims

/-! ## A step by the form of the queue (log 2) -/

namespace Sys2Proof.Machine

theorem step_of_pending_nil (s : State) (empty : s.pending = []) : step s = .next s := by
  rw [step, empty]

theorem step_of_pending_cons (s : State) (c : Instr) (rest : List Instr) (front : s.pending = c :: rest) :
    step s = exec c { s with pending := rest } := by
  rw [step, front]

end Sys2Proof.Machine

namespace Sys2Proof.Claims

open Sys2Proof.Machine

/-- Settles O1: one rule of `step` for each form of the queue; the front command's rule replaces the whole queue by its
rest, so it gives the state that O1 names. -/
theorem stepRunsTheFrontCommand : Obligations.StepRunsTheFrontCommand := by
  refine ⟨fun c rest s => ?front, fun s empty => ?idle⟩
  case front => exact step_of_pending_cons { s with pending := c :: rest } c rest rfl
  case idle => exact step_of_pending_nil s empty

end Sys2Proof.Claims
